-- ==== Sys2Proof/Word.lean ====
section
/-! DEFINITION. The fixed widths of `mazeescape_core` (rules R5, R51). Every value is unsigned and no
rule widens, narrows or adds one (rules R35, R60). -/

namespace Sys2Proof

/-- READ8 and DUTY8: a sensor reading or a PWM compare value (rules R42, R45). -/
abbrev Byte := BitVec 8

/-- DIR4: a direction code, or the upper nibble of the host port (rules R44, R25). -/
abbrev Nibble := BitVec 4

/-- PAT3: the classification pattern `{on_l, on_c, on_r}` (rule R43). -/
abbrev Pat := BitVec 3

/-- RULE3: a rule number, `0` for "no rule" (rule R46). -/
abbrev RuleNo := BitVec 3

/-- A hold count, `hold_n` (rules R5, R49). -/
abbrev Count := BitVec 16

end Sys2Proof
end

