-- ==== Sys2Proof/Syntax.lean ====
section
/-! DEFINITION. The instructions (every row of spec/opcode_table.json), the direction tags, the duty pairs,
the motion commands and the trace events (rules R42 to R53, R65, R100). -/

namespace Sys2Proof

/-- The block's "instructions" (30_encoding.md): the eight rule-table entries, which the 3-bit
classification pattern selects (rule R47), and the seven direction commands, which a 4-bit code names
(rule R48). No instruction carries an operand in its encoding: a command's duty pair is a constant that
the rule number chooses (rule R49). -/
inductive Instr where
  /-- RULE1_RECOVER, PAT = 0b111 (rule R68) -/
  | rule1Recover
  /-- RULE2_REACQUIRE, PAT = 0b000 (rule R70) -/
  | rule2Reacquire
  /-- RULE3_FORWARD, PAT = 0b010 (rule R71) -/
  | rule3Forward
  /-- RULE4_SOFT_LEFT, PAT = 0b110 (rule R72) -/
  | rule4SoftLeft
  /-- RULE5_SOFT_RIGHT, PAT = 0b011 (rule R73) -/
  | rule5SoftRight
  /-- RULE6_RIGHT, PAT = 0b001 (rule R74) -/
  | rule6Right
  /-- RULE7_LEFT, PAT = 0b100 (rule R75) -/
  | rule7Left
  /-- NOMATCH, PAT = 0b101 (rule R76) -/
  | noMatch
  /-- STOP, code 0b0000 (rule R80) -/
  | stop
  /-- SOFT_RIGHT, code 0b0010 (rule R84) -/
  | softRight
  /-- SOFT_LEFT, code 0b0100 (rule R85) -/
  | softLeft
  /-- LEFT, code 0b0101 (rule R82) -/
  | left
  /-- FORWARD, code 0b0110 (rule R81) -/
  | forward
  /-- BACK, code 0b1001 (rule R86) -/
  | back
  /-- RIGHT, code 0b1010 (rule R83) -/
  | right
  deriving DecidableEq, Repr

/-- The seven direction tags, the encoder's whole input set (rule R77). -/
inductive Tag where
  | stop | forward | left | right | softRight | softLeft | back
  deriving DecidableEq, Repr

/-- A duty pair `(l, r)`: `l` goes to DUTY_L and `r` to DUTY_R (rules R21, R45). -/
structure DutyPair where
  l : Byte
  r : Byte
  deriving DecidableEq, Repr

/-- A motion command: a tag with a duty pair, or with none for a direction-only ISSUE (rules R65, R78). -/
structure Command where
  tag : Tag
  duty : Option DutyPair
  deriving DecidableEq, Repr

/-- The events of the observable trace (rules R52, R100). -/
inductive Event where
  /-- PASS: the start of a pass -/
  | pass
  /-- SAMPLE l, c, r: a completed sample, in (left, center, right) order -/
  | sample (l c r : Byte)
  /-- ISSUE TAG, or ISSUE TAG, dl, dr when a duty pair is carried -/
  | issue (tag : Tag) (duty : Option DutyPair)
  /-- HOLD n: a completed blocking delay of n time-units -/
  | hold (n : Count)
  /-- NOMATCH: no rule matched in this pass -/
  | noMatch
  deriving DecidableEq, Repr

end Sys2Proof
end

