-- ==== Sys2Proof/Config.lean ====
section
/-! DEFINITION. What the implementation fixes: the record of named constants (rule R6, decision D25), of which
a block is built with one value (`Sys2Proof.Machine.State.cfg`; by default the document's,
`Sys2Proof.Machine.documentConfig`), and the parameters the spec leaves OPEN (rule R7), which have no body, so
that nothing can be proved of their values. -/

namespace Sys2Proof

/-- The constants of rule R6 as one configuration record (decision D25; entry I13). They are build-time values,
not registers (rules R15, R58): no step can change one. -/
structure Config where
  threshold : Byte
  dutyBack : DutyPair
  dutyForward : DutyPair
  dutySoftLeft : DutyPair
  dutySoftRight : DutyPair
  dutyRight : DutyPair
  dutyLeft : DutyPair
  tBack : Count
  tEnd : Count
  tReacq : Count
  codeStop : Nibble
  codeForward : Nibble
  codeLeft : Nibble
  codeRight : Nibble
  codeSoftRight : Nibble
  codeSoftLeft : Nibble
  codeBack : Nibble
  deriving DecidableEq, Repr

/-- P_DIR_RESET: DIR after reset, any 4-bit value, a reserved code included (rules R7, R28; entry I3).
A free value (assumption log 1). -/
opaque Config.pDirReset : Nibble

/-- P_DUTY_L_RESET: DUTY_L after reset, any 8-bit value (rules R7, R28). A free value (log 1). -/
opaque Config.pDutyLReset : Byte

/-- P_DUTY_R_RESET: DUTY_R after reset, any 8-bit value (rules R7, R28). A free value (log 1). -/
opaque Config.pDutyRReset : Byte

/-- P_PORT_HI: what the environment holds in the host port's upper nibble when the run begins (rules R7,
R25). The later values of the sequence are the environment's own writes, held in `State.inputs`. A free
value (log 2). -/
opaque Config.pPortHi : Nibble

/-- P_TIME_UNIT: the length of one time-unit, a positive duration (rule R7). No rule depends on it (rule
R123); it stands only in `Sys2Proof.Machine.holdTime`. A free value (log 3). -/
opaque Config.pTimeUnit : ℕ+

end Sys2Proof
end

