-- ==== Sys2Proof/Machine/Constants.lean ====
section
/-! DEFINITION. The default value of the configuration record: the document's constants (rule R6). The spec says
the literals are unaudited (decision D25; assumption log 7): if an audit corrects one, this record is the only
place that changes, and the block runs with any other record just as well (entry I13). -/

namespace Sys2Proof.Machine

/-- The document's constants (rule R6). -/
def documentConfig : Config where
  threshold := 16
  dutyBack := ⟨100, 100⟩
  dutyForward := ⟨100, 100⟩
  dutySoftLeft := ⟨0, 150⟩
  dutySoftRight := ⟨150, 0⟩
  dutyRight := ⟨130, 50⟩
  dutyLeft := ⟨50, 130⟩
  tBack := 350
  tEnd := 500
  tReacq := 250
  codeStop := 0b0000
  codeForward := 0b0110
  codeLeft := 0b0101
  codeRight := 0b1010
  codeSoftRight := 0b0010
  codeSoftLeft := 0b0100
  codeBack := 0b1001

end Sys2Proof.Machine
end

