-- ==== Sys2Proof/Machine/State.lean ====
section
/-! DEFINITION. The machine's state as plain data: the block's registers (rules R15, R22, R28), what the
last step showed at the strobe outputs and the trace (rules R23, R28, R100), and the environment's part that
the block sees through its ports (rules R25, R89, R90). -/

namespace Sys2Proof.Machine

/-- PHASE, the sequencer's program counter: 15 values with no binary encoding (rule R22, decision D24). -/
inductive Phase where
  /-- P_START: start of a pass; clears DFLAG -/
  | start
  /-- P_SAMPLE: waits for and latches the pass's sample -/
  | sample
  /-- P_MATCH1: tests rule 1 -/
  | match1
  /-- P_R1_BACK: rule 1 issues back -/
  | r1Back
  /-- P_R1_HOLD: rule 1 holds T_BACK -/
  | r1Hold
  /-- P_R1_RESAMPLE: rule 1 waits for and latches the re-sample -/
  | r1Resample
  /-- P_R1_CHECK: rule 1 re-tests the all-on-line condition -/
  | r1Check
  /-- P_R1_STOP: rule 1's terminal branch issues stop -/
  | r1Stop
  /-- P_R1_END_HOLD: rule 1's terminal branch holds T_END and sets DFLAG -/
  | r1EndHold
  /-- P_MATCH2: matches rules 2..7 or reports no match -/
  | match2
  /-- P_R2_STOP: rule 2 issues stop -/
  | r2Stop
  /-- P_R2_HOLD: rule 2 holds T_REACQ -/
  | r2Hold
  /-- P_R2_FWD: rule 2 issues forward and sets DFLAG -/
  | r2Fwd
  /-- P_TURN: rules 3..7 issue their command with its duty pair -/
  | turn
  /-- P_FWD_TAIL: rules 4..7 issue forward and set DFLAG -/
  | fwdTail
  deriving DecidableEq, Repr

/-- The three sample latches LAT_L, LAT_C, LAT_R, which one step writes together (rules R17, R54). -/
structure Readings where
  l : Byte
  c : Byte
  r : Byte
  deriving DecidableEq, Repr

/-- The strobe outputs during the step last taken: dir_we, duty_we (rule R78) and nomatch_o (rule R23). -/
structure Strobes where
  dirWe : Bool
  dutyWe : Bool
  noMatch : Bool
  deriving DecidableEq, Repr

/-- No strobe is 1. -/
def Strobes.low : Strobes := ⟨false, false, false⟩

/-- What the environment presents at the input ports in one step (rules R89, R90): reset, the sample
handshake with the conversion results of the three channels in use, the hold handshake, and its own write of the
host port's upper nibble, if it makes one. Which sensor a channel serves is `Pins.smpL`, `Pins.smpC` and
`Pins.smpR` (rule R8). -/
structure Pins where
  rst : Bool
  smpValid : Bool
  /-- the result of conversion channel 1 -/
  ch1 : Byte
  /-- the result of conversion channel 2 -/
  ch2 : Byte
  /-- the result of conversion channel 3 -/
  ch3 : Byte
  holdDone : Bool
  /-- the environment's write of PORT[7:4] in this step (rules R90, R120) -/
  portHi : Option Nibble
  deriving DecidableEq, Repr

/-- An environment that does nothing in this step. -/
def Pins.idle : Pins := ⟨false, false, 0, 0, 0, false, none⟩

/-- The machine's state. -/
@[ext]
structure State where
  /-- PHASE (rule R22) -/
  phase : Phase
  /-- LAT_L, LAT_C, LAT_R (rule R17); `none` is the spec's own "holds no value" (rules R28, R114) -/
  lat : Option Readings
  /-- DFLAG (rule R18) -/
  dflag : Bool
  /-- RULE (rule R19); `none` is the spec's own "holds no value" (rules R28, R114) -/
  rule : Option RuleNo
  /-- DIR, driven onto PORT[3:0] (rules R20, R32) -/
  dir : Nibble
  /-- DUTY_L (rule R21) -/
  dutyL : Byte
  /-- DUTY_R (rule R21) -/
  dutyR : Byte
  /-- the strobe outputs during the step last taken (rules R23, R78) -/
  strobes : Strobes
  /-- the trace, oldest event first (rule R100) -/
  trace : List Event
  /-- PORT[7:4], the environment's (rules R25, R32) -/
  portHi : Nibble
  /-- the MODEL's own field: the configuration record the block was built with (rule R6, entry I13); no register
  (rules R15, R58), and no step changes it (assumption log 14) -/
  cfg : Config
  /-- the MODEL's own field: what the environment presents in the coming steps, first step first; past its
  end the environment does nothing (rule R90; assumption log 5) -/
  inputs : List Pins
  deriving DecidableEq, Repr

/-- Why the machine stops. Rule R98 knows two faults and neither can be reached from reset. -/
inductive Fault where
  /-- LAT was read before its first write (rules R28, R98; entry I4). Raised by `fetch` in P_MATCH1,
  P_R1_CHECK and P_MATCH2. The spec's own fault ("A read of such a value would be a fault", rule R28), which no
  run from reset meets; safe: the machine only stops. -/
  | latNoValue
  /-- RULE was read before its first write (rules R28, R98; entry I4). Raised by `fetch` in P_TURN. The
  spec's own fault, in the same words, which no run from reset meets; safe. -/
  | ruleNoValue
  /-- k = 1 at P_MATCH2 with DFLAG = 0 (rule R95, entry I17). Raised by `match2Row`. The spec's own fault;
  safe. -/
  | ruleOneAtMatch2
  /-- CmdOf(0) was asked for, which is not defined (rule R65): P_TURN with RULE = 0. Raised by `turnRow`. Safe. -/
  | noCommand
  /-- A rule-table entry was asked to run in a phase that no row of rule R92 gives it. Raised by
  `entryStep` and `sequencerRow`, never through `step`. Safe. -/
  | outOfSequence (p : Phase)
  deriving DecidableEq, Repr

/-- Why an instruction has no meaning. Rule R98: "There is no refusal." -/
inductive Refusal where
  /-- An arm of `exec` that is not modelled; no arm answers it. Safe. -/
  | notModelled (mnemonic : String)
  deriving DecidableEq, Repr

/-- What one step, or one instruction, answers. -/
abbrev Result := Host.Outcome State Fault Refusal

/-- The machine right after reset (rules R28, R114). LAT and RULE hold no value; DIR, DUTY_L and DUTY_R are
the open parameters; the block is built with the document's constants, the record's default (rule R6); the
environment has presented nothing yet (assumption logs 1, 2, 5, 6, 14). -/
def State.reset : State where
  phase := .start
  lat := none
  dflag := false
  rule := none
  dir := Config.pDirReset
  dutyL := Config.pDutyLReset
  dutyR := Config.pDutyRReset
  strobes := .low
  trace := []
  portHi := Config.pPortHi
  cfg := documentConfig
  inputs := []

end Sys2Proof.Machine
end

