-- ==== Sys2Proof/Machine/Flags.lean ====
section
/-! DEFINITION. The combinational units: the threshold comparator array (rules R56 to R60) and the
priority-encoder rule matcher (rules R61 to R64). They hold no state. -/

namespace Sys2Proof.Machine

/-- A comparator against a given threshold: unsigned, inclusive (rule R56). -/
def onLineAt (threshold v : Byte) : Bool := v ≤ threshold

/-- CMP: the block's comparator, one for each channel, all against THRESHOLD (rules R56, R58). -/
def onLine (c : Config) (v : Byte) : Bool := onLineAt c.threshold v

/-- CMP built from gates, for THRESHOLD = 16 only (rule R57). -/
def onLineGates (v : Byte) : Bool :=
  !(v.getLsbD 7 || v.getLsbD 6 || v.getLsbD 5) &&
    (!v.getLsbD 4 || !(v.getLsbD 3 || v.getLsbD 2 || v.getLsbD 1 || v.getLsbD 0))

/-- CLASSIFY: the comparator array, `PAT = {on_l, on_c, on_r}` with on_l at bit 2 (rules R43, R59). -/
def classify (c : Config) (x : Readings) : Pat :=
  BitVec.ofBool (onLine c x.l) ++ BitVec.ofBool (onLine c x.c) ++ BitVec.ofBool (onLine c x.r)

/-- PAT, combinational from LAT; no value before the first sample (rules R28, R59). -/
def State.pat (s : State) : Option Pat := s.lat.map (classify s.cfg)

/-- The document's conditions read L, C and R from PAT (rule R61). -/
def onL (p : Pat) : Bool := p.getLsbD 2

/-- C of rule R61. -/
def onC (p : Pat) : Bool := p.getLsbD 1

/-- R of rule R61. -/
def onR (p : Pat) : Bool := p.getLsbD 0

/-- The match lines m1..m7, in the document's priority order (rule R61). -/
def matchLines (p : Pat) : List (RuleNo × Bool) :=
  [ (1, onL p && onC p && onR p),
    (2, !onL p && !onC p && !onR p),
    (3, !onL p && onC p && !onR p),
    (4, onL p && onC p && !onR p),
    (5, !onL p && onC p && onR p),
    (6, !onL p && !onC p && onR p),
    (7, onL p && !onC p && !onR p) ]

/-- The first line that is 1, or 0 (rule R62). -/
def firstMatch : List (RuleNo × Bool) → RuleNo
  | [] => 0
  | (k, m) :: rest => if m then k else firstMatch rest

/-- MATCH: the priority encoder, gated by DFLAG (rules R62, R63). -/
def matchRule (p : Pat) (dflag : Bool) : RuleNo :=
  if dflag then 0 else firstMatch (matchLines p)

end Sys2Proof.Machine
end

