-- ==== Sys2Proof/Machine/Operands.lean ====
section
/-! DEFINITION. How operands are formed (rule R49): the direction encoder, the command multiplexer, the duty
pair a command carries, and the hold counts. -/

namespace Sys2Proof.Machine

/-- ENC: the direction encoder (rule R77). -/
def enc (c : Config) : Tag → Nibble
  | .stop => c.codeStop
  | .forward => c.codeForward
  | .left => c.codeLeft
  | .right => c.codeRight
  | .softRight => c.codeSoftRight
  | .softLeft => c.codeSoftLeft
  | .back => c.codeBack

/-- COMMAND MUX: the first command of each rule; CmdOf(0) is not defined (rule R65). -/
def cmdOf (c : Config) (k : RuleNo) : Option Command :=
  match k with
  | 0#3 => none
  | 1#3 => some ⟨.back, some c.dutyBack⟩
  | 2#3 => some ⟨.stop, none⟩
  | 3#3 => some ⟨.forward, some c.dutyForward⟩
  | 4#3 => some ⟨.softLeft, some c.dutySoftLeft⟩
  | 5#3 => some ⟨.softRight, some c.dutySoftRight⟩
  | 6#3 => some ⟨.right, some c.dutyRight⟩
  | 7#3 => some ⟨.left, some c.dutyLeft⟩

/-- The duty pair a command carries (rules R80 to R86). Only FORWARD has two forms: with DUTY_FORWARD as
rule 3's command, which P_TURN issues, and direction-only in every tail (rule R81). -/
def dutyOf (c : Config) : Tag → Phase → Option DutyPair
  | .stop, _ => none
  | .forward, .turn => some c.dutyForward
  | .forward, _ => none
  | .left, _ => some c.dutyLeft
  | .right, _ => some c.dutyRight
  | .softRight, _ => some c.dutySoftRight
  | .softLeft, _ => some c.dutySoftLeft
  | .back, _ => some c.dutyBack

/-- The count a hold phase requests (rules R49, R97). -/
def holdCount (c : Config) : Phase → Option Count
  | .r1Hold => some c.tBack
  | .r1EndHold => some c.tEnd
  | .r2Hold => some c.tReacq
  | _ => none

/-- `n` time-units as a duration; no rule of the model depends on it (rules R97, R123). -/
def holdTime (n : Count) : Nat := n.toNat * Config.pTimeUnit

end Sys2Proof.Machine
end

