-- ==== Sys2Proof/WellFormed.lean ====
section
/-! DEFINITION. The checks: which instructions, direction codes and configuration records are well formed
(rules R44, R50; entry I1 of 93_implementation_defined.md). -/

namespace Sys2Proof

/-- Every term of `Instr` is well formed: an instruction carries no operand, all eight PAT3 values are
defined, and the encoder has no input besides the seven tags (rules R49, R50, R77). -/
def Instr.wf : Instr → Bool
  | .rule1Recover | .rule2Reacquire | .rule3Forward | .rule4SoftLeft | .rule5SoftRight | .rule6Right
  | .rule7Left | .noMatch | .stop | .softRight | .softLeft | .left | .forward | .back | .right => true

/-- The seven legal direction codes; the nine other 4-bit values are reserved (rules R44, R50). -/
def legalDir4 (c : Nibble) : Bool :=
  c = 0b0000#4 || c = 0b0010#4 || c = 0b0100#4 || c = 0b0101#4 || c = 0b0110#4 || c = 0b1001#4 ||
    c = 0b1010#4

/-- A configuration record is well formed when its CODE_* constants are the seven listed values
(entry I1). The other constants may take any value of their width (rules R6, R50). -/
def Config.wf (c : Config) : Bool :=
  c.codeStop = 0b0000#4 && c.codeForward = 0b0110#4 && c.codeLeft = 0b0101#4 &&
    c.codeRight = 0b1010#4 && c.codeSoftRight = 0b0010#4 && c.codeSoftLeft = 0b0100#4 &&
    c.codeBack = 0b1001#4

/-- Why a configuration record is turned away. -/
inductive ConfigError where
  /-- A CODE_* constant is not the listed value (entry I1). -/
  | notTheListedCodes
  deriving DecidableEq, Repr

/-- A record with other codes is refused, by name, before the block is built (entry I1). -/
def Config.accept (c : Config) : Except ConfigError Config :=
  if c.wf then .ok c else .error .notTheListedCodes

end Sys2Proof
end

