-- ==== Sys2Proof/Machine/Ops.lean ====
section
/-! DEFINITION. The named operations over the registers and the ports: the format's primitives (rule R11),
ISSUE (rule R78), reset (rule R114) and the environment's part of a step (rules R90, R120). The block has no
memory (rule R29) and no exception to take or to return from (rules R103, R107), so none is here. -/

namespace Sys2Proof.Machine

/-- The block built with the record `c`: its state after reset; a record with other codes is refused (rule R6,
entries I1, I13). -/
def build (c : Config) : Except ConfigError State :=
  match c.accept with
  | .ok c => .ok { State.reset with cfg := c }
  | .error e => .error e

/-- Apply `f` to the next state, and pass a fault or a refusal on. -/
def onNext (f : State → State) : Result → Result
  | .next s => .next (f s)
  | .fault r => .fault r
  | .refused r => .refused r

/-- What the environment presents in this step; nothing, past the end of what it has presented. -/
def State.pins (s : State) : Pins := s.inputs.headD .idle

/-- smp_l: the left reading, from conversion channel 3 (rules R8, R89). -/
def Pins.smpL (p : Pins) : Byte := p.ch3

/-- smp_c: the center reading, from conversion channel 2 (rules R8, R89). -/
def Pins.smpC (p : Pins) : Byte := p.ch2

/-- smp_r: the right reading, from conversion channel 1 (rules R8, R89). -/
def Pins.smpR (p : Pins) : Byte := p.ch1

/-- `PHASE <- p` (rule R11). -/
def State.goto (s : State) (p : Phase) : State := { s with phase := p }

/-- Every strobe output is 0 in this step (rules R23, R78). -/
def State.quiet (s : State) : State := { s with strobes := .low }

/-- `Emit(ev)`: append an event to the trace (rules R11, R100). -/
def State.emit (s : State) (ev : Event) : State := { s with trace := s.trace ++ [ev] }

/-- `DFLAG <- b` (rules R18, R66, R93). -/
def State.setFlag (s : State) (b : Bool) : State := { s with dflag := b }

/-- `LAT <- (l, c, r)`, all three at once (rules R17, R54). -/
def State.latch (s : State) (x : Readings) : State := { s with lat := some x }

/-- `RULE <- k` (rules R19, R95). -/
def State.setRule (s : State) (k : RuleNo) : State := { s with rule := some k }

/-- `PortWrite(code)`: PORT[3:0] and DIR take the code; PORT[7:4] is not written (rule R32). -/
def State.portWrite (s : State) (code : Nibble) : State := { s with dir := code }

/-- `DutyWrite(l, r)` (rule R33). -/
def State.dutyWrite (s : State) (d : DutyPair) : State := { s with dutyL := d.l, dutyR := d.r }

/-- The strobe outputs of one step. -/
def State.strobe (s : State) (dirWe dutyWe noMatch : Bool) : State :=
  { s with strobes := ⟨dirWe, dutyWe, noMatch⟩ }

/-- ISSUE: one step that applies one motion command (rule R78). -/
def State.issue (s : State) (tag : Tag) (duty : Option DutyPair) : State :=
  match duty with
  | some d =>
    (((s.dutyWrite d).emit (.issue tag (some d))).portWrite (enc s.cfg tag)).strobe true true false
  | none => ((s.emit (.issue tag none)).portWrite (enc s.cfg tag)).strobe true false false

/-- The reset state: every piece of the block's state takes its reset value, whatever PHASE holds. Reset does
not touch the host port's upper nibble or the environment (rules R106, R114), and the block stays the one that was
built (rule R58). -/
def State.resetBlock (s : State) : State :=
  { State.reset with portHi := s.portHi, cfg := s.cfg, inputs := s.inputs }

/-- The environment's side of one step: its own write of PORT[7:4] lands, and it moves on to what it presents
next (rules R90, R120). -/
def State.tick (s : State) : State :=
  { s with portHi := s.pins.portHi.getD s.portHi, inputs := s.inputs.tail }

/-- Waiting: the block takes no step (rules R26, R97, R98). -/
def wait (s : State) : Result := .next s.quiet

end Sys2Proof.Machine
end

