-- ==== Sys2Proof/Machine/Command.lean ====
section
/-! DEFINITION. The seven direction commands (rules R80 to R86): each is one ISSUE with its own tag and duty
pair. A command writes neither PHASE nor DFLAG: the sequencer row that issues it does (rules R78, R92). -/

namespace Sys2Proof.Machine

/-- STOP: direction-only (rule R80). -/
def execStop (s : State) : Result := .next (s.issue .stop (dutyOf s.cfg .stop s.phase))

/-- SOFT_RIGHT with DUTY_SOFT_RIGHT (rule R84). -/
def execSoftRight (s : State) : Result := .next (s.issue .softRight (dutyOf s.cfg .softRight s.phase))

/-- SOFT_LEFT with DUTY_SOFT_LEFT (rule R85). -/
def execSoftLeft (s : State) : Result := .next (s.issue .softLeft (dutyOf s.cfg .softLeft s.phase))

/-- LEFT with DUTY_LEFT (rule R82). -/
def execLeft (s : State) : Result := .next (s.issue .left (dutyOf s.cfg .left s.phase))

/-- FORWARD: with DUTY_FORWARD in rule 3, direction-only elsewhere (rule R81). -/
def execForward (s : State) : Result := .next (s.issue .forward (dutyOf s.cfg .forward s.phase))

/-- BACK with DUTY_BACK (rule R86). -/
def execBack (s : State) : Result := .next (s.issue .back (dutyOf s.cfg .back s.phase))

/-- RIGHT with DUTY_RIGHT (rule R83). -/
def execRight (s : State) : Result := .next (s.issue .right (dutyOf s.cfg .right s.phase))

/-- The command a tag stands for (rules R48, R77). -/
def runCommand : Tag → State → Result
  | .stop, s => execStop s
  | .forward, s => execForward s
  | .left, s => execLeft s
  | .right, s => execRight s
  | .softRight, s => execSoftRight s
  | .softLeft, s => execSoftLeft s
  | .back, s => execBack s

end Sys2Proof.Machine
end

