-- ==== Sys2Proof/Machine/Sequencer.lean ====
section
/-! DEFINITION. The rows of the sequencer's transition table (rule R92), as shared operations: the rule-table
entries carry out their action lists with them, one action a step. -/

namespace Sys2Proof.Machine

/-- P_START: clears DFLAG and emits PASS (rule R93). -/
def startRow (s : State) : Result := .next (((s.quiet.setFlag false).emit .pass).goto .sample)

/-- P_SAMPLE and P_R1_RESAMPLE: wait for the triple, latch it, go on to `p` (rule R54). -/
def sampleRow (p : Phase) (s : State) : Result :=
  if s.pins.smpValid then
    .next (((s.quiet.latch ⟨s.pins.smpL, s.pins.smpC, s.pins.smpR⟩).emit
      (.sample s.pins.smpL s.pins.smpC s.pins.smpR)).goto p)
  else wait s

/-- A hold phase: wait for the delay service, emit HOLD n, then do `after` in the same step (rule R97). -/
def holdRow (n : Count) (after : State → State) (s : State) : Result :=
  if s.pins.holdDone then .next (after (s.quiet.emit (.hold n))) else wait s

/-- An ISSUE row: the command, then `after` in the same step (rules R78, R92). -/
def issueRow (tag : Tag) (after : State → State) (s : State) : Result :=
  onNext after (runCommand tag s)

/-- The last action of a rule: DFLAG is set with it and the pass ends (rules R66, R92). -/
def State.finish (s : State) : State := (s.setFlag true).goto .start

/-- P_MATCH1, for the entry numbered `k` that PAT selects (rule R94). -/
def match1Row (k : RuleNo) (s : State) : Result :=
  .next (s.quiet.goto (if !s.dflag && k == 1#3 then .r1Back else .match2))

/-- P_R1_CHECK, for the entry numbered `k` that the re-sampled PAT selects (rule R94). -/
def checkRow (k : RuleNo) (s : State) : Result :=
  .next (s.quiet.goto (if k == 1#3 then .r1Stop else .match2))

/-- P_MATCH2, for the entry numbered `k` that PAT selects (rules R63, R76, R95). -/
def match2Row (k : RuleNo) (s : State) : Result :=
  if s.dflag then .next (s.quiet.goto .start)
  else if k = 1#3 then .fault .ruleOneAtMatch2
  else if k = 0#3 then
    .next ((((s.setRule k).emit .noMatch).strobe false false true).goto .start)
  else .next ((s.quiet.setRule k).goto (if k = 2#3 then .r2Stop else .turn))

/-- P_TURN: ISSUE(CmdOf(k)); rule 3 is then complete, any other goes on to its tail (rule R96). -/
def turnRow (k : RuleNo) (s : State) : Result :=
  match cmdOf s.cfg k with
  | none => .fault .noCommand
  | some c => issueRow c.tag (fun t => if k = 3#3 then t.finish else t.goto .fwdTail) s

/-- P_FWD_TAIL: a direction-only FORWARD completes rules 4..7 (rule R96). -/
def tailRow (s : State) : Result := issueRow .forward State.finish s

/-- The rows that any rule-table entry may meet: the match steps, then the turn and its tail. -/
def entryStep (k : RuleNo) (s : State) : Result :=
  match s.phase with
  | .match1 => match1Row k s
  | .r1Check => checkRow k s
  | .match2 => match2Row k s
  | .turn => turnRow k s
  | .fwdTail => tailRow s
  | p => .fault (.outOfSequence p)

/-- The rows that belong to no entry: P_START and P_SAMPLE; P_MATCH1 and P_MATCH2 while DFLAG = 1, when the
matcher selects no rule (rules R63, R95); and P_FWD_TAIL, which does not read RULE (rule R92). -/
def sequencerRow (s : State) : Result :=
  match s.phase with
  | .start => startRow s
  | .sample => sampleRow .match1 s
  | .match1 => .next (s.quiet.goto .match2)
  | .match2 => .next (s.quiet.goto .start)
  | .fwdTail => tailRow s
  | p => .fault (.outOfSequence p)

end Sys2Proof.Machine
end

