-- ==== Sys2Proof/Machine/RuleTable.lean ====
section
/-! DEFINITION. The eight rule-table entries (rules R68 to R76). An entry's action list takes several steps;
PHASE says where in the list the block is, and each meaning carries out the action of the present phase: one
action a step, as rule R92 has it. -/

namespace Sys2Proof.Machine

/-- RULE1_RECOVER (rules R68, R69): back with its duty pair, hold T_BACK, re-sample, re-test; if still all on
line, stop and hold T_END, which fires the rule. -/
def execRule1Recover (s : State) : Result :=
  match s.phase with
  | .r1Back => issueRow .back (·.goto .r1Hold) s
  | .r1Hold => holdRow s.cfg.tBack (·.goto .r1Resample) s
  | .r1Resample => sampleRow .r1Check s
  | .r1Stop => issueRow .stop (·.goto .r1EndHold) s
  | .r1EndHold => holdRow s.cfg.tEnd (fun t => (t.setFlag true).goto .match2) s
  | _ => entryStep 1#3 s

/-- RULE2_REACQUIRE (rule R70): stop, hold T_REACQ, then forward with the previous duty. -/
def execRule2Reacquire (s : State) : Result :=
  match s.phase with
  | .r2Stop => issueRow .stop (·.goto .r2Hold) s
  | .r2Hold => holdRow s.cfg.tReacq (·.goto .r2Fwd) s
  | .r2Fwd => issueRow .forward State.finish s
  | _ => entryStep 2#3 s

/-- RULE3_FORWARD (rule R71): forward with DUTY_FORWARD. -/
def execRule3Forward (s : State) : Result := entryStep 3#3 s

/-- RULE4_SOFT_LEFT (rule R72): soft_left with its duty pair, then forward. -/
def execRule4SoftLeft (s : State) : Result := entryStep 4#3 s

/-- RULE5_SOFT_RIGHT (rule R73): soft_right with its duty pair, then forward. -/
def execRule5SoftRight (s : State) : Result := entryStep 5#3 s

/-- RULE6_RIGHT (rule R74): right with its duty pair, then forward. -/
def execRule6Right (s : State) : Result := entryStep 6#3 s

/-- RULE7_LEFT (rule R75): left with its duty pair, then forward. -/
def execRule7Left (s : State) : Result := entryStep 7#3 s

/-- NOMATCH (rule R76): the event and the strobe only. -/
def execNoMatch (s : State) : Result := entryStep 0#3 s

end Sys2Proof.Machine
end

