-- ==== Sys2Proof/Machine/Dispatch.lean ====
section
/-! DEFINITION. One arm for each constructor of `Instr`. -/

namespace Sys2Proof.Machine

def exec (i : Instr) (s : State) : Host.Outcome State Fault Refusal :=
  match i with
  | .rule1Recover => Sys2Proof.Machine.execRule1Recover s
  | .rule2Reacquire => Sys2Proof.Machine.execRule2Reacquire s
  | .rule3Forward => Sys2Proof.Machine.execRule3Forward s
  | .rule4SoftLeft => Sys2Proof.Machine.execRule4SoftLeft s
  | .rule5SoftRight => Sys2Proof.Machine.execRule5SoftRight s
  | .rule6Right => Sys2Proof.Machine.execRule6Right s
  | .rule7Left => Sys2Proof.Machine.execRule7Left s
  | .noMatch => Sys2Proof.Machine.execNoMatch s
  | .stop => Sys2Proof.Machine.execStop s
  | .softRight => Sys2Proof.Machine.execSoftRight s
  | .softLeft => Sys2Proof.Machine.execSoftLeft s
  | .left => Sys2Proof.Machine.execLeft s
  | .forward => Sys2Proof.Machine.execForward s
  | .back => Sys2Proof.Machine.execBack s
  | .right => Sys2Proof.Machine.execRight s

end Sys2Proof.Machine
end

