-- ==== Sys2Proof/Decode.lean ====
section
/-! DEFINITION. Decoding and encoding: PAT3 words select a rule-table entry (rules R43, R47), DIR4 words
name a direction command (rules R44, R48, R50). Both formats have a fixed width and the block always knows
from its phase which of the two a word is (rule R51), so a word is given with its format. -/

namespace Sys2Proof

/-- A word with its format. -/
inductive Code where
  /-- a classification pattern, three bits (rule R43) -/
  | pat3 (p : Pat)
  /-- a direction code, four bits (rule R44) -/
  | dir4 (c : Nibble)
  deriving DecidableEq, Repr

/-- Why a word is no instruction. -/
inductive DecodeError where
  /-- one of the nine reserved direction codes (rule R50, entry I1) -/
  | reservedDirection (c : Nibble)
  deriving DecidableEq, Repr

/-- The rule-table entry a pattern selects; no value is illegal (rules R47, R50). -/
def decodePat3 (p : Pat) : Instr :=
  match p with
  | 0b111#3 => .rule1Recover
  | 0b000#3 => .rule2Reacquire
  | 0b010#3 => .rule3Forward
  | 0b110#3 => .rule4SoftLeft
  | 0b011#3 => .rule5SoftRight
  | 0b001#3 => .rule6Right
  | 0b100#3 => .rule7Left
  | 0b101#3 => .noMatch

/-- The command a direction code names; the nine other codes are reserved (rules R44, R48, R50). -/
def decodeDir4 (c : Nibble) : Except DecodeError Instr :=
  match c with
  | 0b0000#4 => .ok .stop
  | 0b0010#4 => .ok .softRight
  | 0b0100#4 => .ok .softLeft
  | 0b0101#4 => .ok .left
  | 0b0110#4 => .ok .forward
  | 0b1001#4 => .ok .back
  | 0b1010#4 => .ok .right
  | _ => .error (.reservedDirection c)

/-- The decoder, total on every word of either format. -/
def decode : Code → Except DecodeError Instr
  | .pat3 p => .ok (decodePat3 p)
  | .dir4 c => decodeDir4 c

/-- The word of an instruction, from the tables of rules R44 and R47. -/
def encode : Instr → Code
  | .rule1Recover => .pat3 0b111#3
  | .rule2Reacquire => .pat3 0b000#3
  | .rule3Forward => .pat3 0b010#3
  | .rule4SoftLeft => .pat3 0b110#3
  | .rule5SoftRight => .pat3 0b011#3
  | .rule6Right => .pat3 0b001#3
  | .rule7Left => .pat3 0b100#3
  | .noMatch => .pat3 0b101#3
  | .stop => .dir4 0b0000#4
  | .softRight => .dir4 0b0010#4
  | .softLeft => .dir4 0b0100#4
  | .left => .dir4 0b0101#4
  | .forward => .dir4 0b0110#4
  | .back => .dir4 0b1001#4
  | .right => .dir4 0b1010#4

/-- The command a direction tag stands for (rule R48). -/
def Tag.instr : Tag → Instr
  | .stop => .stop
  | .forward => .forward
  | .left => .left
  | .right => .right
  | .softRight => .softRight
  | .softLeft => .softLeft
  | .back => .back

/-- The rule-table entry a rule number stands for, `0` being the uncovered pattern's (rules R46, R47). -/
def entryOf (k : RuleNo) : Instr :=
  match k with
  | 0#3 => .noMatch
  | 1#3 => .rule1Recover
  | 2#3 => .rule2Reacquire
  | 3#3 => .rule3Forward
  | 4#3 => .rule4SoftLeft
  | 5#3 => .rule5SoftRight
  | 6#3 => .rule6Right
  | 7#3 => .rule7Left

/-- The format of a table word that comes WITHOUT its format. DESIGN CHOICE (assumption log 4): three bits
are a PAT3 word and four a DIR4 word; of a longer word, a value 8 to 15 fits only DIR4 and is read so, and
any other is a PAT3 word under the table's own mask 0b111. -/
def tableCode (nbits w : Nat) : Code :=
  if nbits ≤ 3 then .pat3 (BitVec.ofNat 3 w)
  else if nbits = 4 then .dir4 (BitVec.ofNat 4 w)
  else if 8 ≤ w ∧ w ≤ 15 then .dir4 (BitVec.ofNat 4 w)
  else .pat3 (BitVec.ofNat 3 w)

/-- The instruction the decoder reads from a word of spec/opcode_table.json. -/
def decodeTableWord (nbits w : Nat) : Option Instr :=
  match decode (tableCode nbits w) with
  | .ok i => some i
  | .error _ => none

end Sys2Proof
end

