-- ==== Sys2Proof/Machine/Fetch.lean ====
section
/-! DEFINITION. Which instruction a phase runs, and how an instruction is put where the next step fetches it.
There is no instruction memory (rule R40): the "program" is the sequence of readings, and the rule matcher
picks the entry from the pattern they classify to (95_test_vectors.md section 7). -/

namespace Sys2Proof.Machine

/-- The entry the rule matcher selects from the present PAT (rules R61, R62); PAT has no value before the
first sample, and reading it then is a fault by the spec's own words (rules R28, R98, entry I4). -/
def fetchPat (s : State) : Except Fault (Option Instr) :=
  match s.pat with
  | none => .error .latNoValue
  | some p => .ok (some (entryOf (matchRule p false)))

/-- The instruction the present phase runs, if any. In P_MATCH1 and P_MATCH2 the matcher is gated by DFLAG
(rule R63); P_R1_CHECK does not consult DFLAG (rule R94); P_TURN reads RULE (rule R19), and
reading it before its first write is a fault by the spec's own words (rules R28, R98, entry I4). -/
def fetch (s : State) : Except Fault (Option Instr) :=
  match s.phase with
  | .start | .sample => .ok none
  | .match1 | .match2 => if s.dflag then .ok none else fetchPat s
  | .r1Check => fetchPat s
  | .r1Back | .r1Hold | .r1Resample | .r1Stop | .r1EndHold => .ok (some .rule1Recover)
  | .r2Stop | .r2Hold | .r2Fwd => .ok (some .rule2Reacquire)
  | .turn =>
    match s.rule with
    | none => .error .ruleNoValue
    | some k => .ok (some (entryOf k))
  | .fwdTail =>
    match s.rule with
    | none => .ok none
    | some k => .ok (some (entryOf k))

/-- The direction command the present phase's ISSUE applies, if the phase is an ISSUE phase (rule R92). -/
def fetchCommand (s : State) : Option Tag :=
  match s.phase with
  | .r1Back => some .back
  | .r1Stop | .r2Stop => some .stop
  | .r2Fwd | .fwdTail => some .forward
  | .turn => (s.rule.bind (cmdOf s.cfg)).map Command.tag
  | _ => none

/-- Readings that classify to `p`: 0 for a channel on line, 255 for one off line (rule R56; with THRESHOLD = 255 no
reading is off line). -/
def readingsFor (p : Pat) : Readings :=
  ⟨if onL p then 0 else 255, if onC p then 0 else 255, if onR p then 0 else 255⟩

/-- The coming step is no reset step; all else that the environment presents stays. -/
def withoutReset : List Pins → List Pins
  | [] => []
  | p :: rest => { p with rst := false } :: rest

/-- The block stands at phase `p` of a pass in which no rule has fired, with LAT classifying to `pat`. -/
def State.atMatch (s : State) (p : Phase) (pat : Pat) : State :=
  { s with phase := p, dflag := false, lat := some (readingsFor pat), inputs := withoutReset s.inputs }

/-- The block stands at phase `p`. -/
def State.atPhase (s : State) (p : Phase) : State :=
  { s with phase := p, inputs := withoutReset s.inputs }

/-- The block stands at phase `p` with RULE = `k`. -/
def State.atIssue (s : State) (p : Phase) (k : RuleNo) : State :=
  { s with phase := p, rule := some k, inputs := withoutReset s.inputs }

/-- The block stands where its next step runs `i`: at the match step with readings that select the entry, or at
a phase that issues the command (assumption log 4). -/
def State.place (s : State) : Instr → State
  | .rule1Recover => s.atMatch .match1 0b111#3
  | .rule2Reacquire => s.atMatch .match2 0b000#3
  | .rule3Forward => s.atMatch .match2 0b010#3
  | .rule4SoftLeft => s.atMatch .match2 0b110#3
  | .rule5SoftRight => s.atMatch .match2 0b011#3
  | .rule6Right => s.atMatch .match2 0b001#3
  | .rule7Left => s.atMatch .match2 0b100#3
  | .noMatch => s.atMatch .match2 0b101#3
  | .stop => s.atPhase .r2Stop
  | .softRight => s.atIssue .turn 5#3
  | .softLeft => s.atIssue .turn 4#3
  | .left => s.atIssue .turn 7#3
  | .forward => s.atIssue .turn 3#3
  | .back => s.atPhase .r1Back
  | .right => s.atIssue .turn 6#3

end Sys2Proof.Machine
end

