-- ==== Sys2Proof/Machine/Step.lean ====
section
/-! DEFINITION. The one step of the machine: a reset step, a sequencer row, or the instruction the phase runs;
the environment moves on with each (rules R92, R98, R106). -/

namespace Sys2Proof.Machine

/-- One step. Reset overrides every step (rule R106). A wait is a next state in which the block is unchanged
and only the environment has moved on (rule R98; assumption log 8). -/
def step (s : State) : Host.Outcome State Fault Refusal :=
  if s.pins.rst then .next s.resetBlock.tick
  else
    match fetch s with
    | .error f => .fault f
    | .ok none => onNext State.tick (sequencerRow s)
    | .ok (some i) => onNext State.tick (exec i s)

/-- `s` with the instruction of a table word put where the next step runs it; unchanged where the word is no
instruction. -/
def State.withFetchWord (s : State) (nbits w : Nat) : State :=
  match decodeTableWord nbits w with
  | some i => s.place i
  | none => s

end Sys2Proof.Machine
end

