-- ==== Sys2Proof/Machine/Ports.lean ====
section
/-! DEFINITION. The output ports (rules R23, R89). The levels are functions of the state; the strobes are those of
the step last taken. -/

namespace Sys2Proof.Machine

/-- The block's output ports (rule R89). `none` stands for a port that has no value (rule R23) or whose value
is not valid (hold_n while hold_req = 0). -/
structure Outputs where
  smpReq : Bool
  dirO : Nibble
  dirWe : Bool
  dutyLO : Byte
  dutyRO : Byte
  dutyWe : Bool
  holdReq : Bool
  holdN : Option Count
  onO : Option Pat
  ruleO : Option RuleNo
  noMatchO : Bool
  dflagO : Bool
  deriving DecidableEq, Repr

/-- smp_req: 1 while PHASE is P_SAMPLE or P_R1_RESAMPLE (rule R89). -/
def smpReq (p : Phase) : Bool := p = .sample || p = .r1Resample

/-- hold_req: 1 while PHASE is P_R1_HOLD, P_R1_END_HOLD or P_R2_HOLD (rule R89). -/
def holdReq (p : Phase) : Bool := p = .r1Hold || p = .r1EndHold || p = .r2Hold

/-- The output ports in a state. rule_o shows Match(PAT, 0), whatever DFLAG is (rule R23). -/
def State.outputs (s : State) : Outputs where
  smpReq := smpReq s.phase
  dirO := s.dir
  dirWe := s.strobes.dirWe
  dutyLO := s.dutyL
  dutyRO := s.dutyR
  dutyWe := s.strobes.dutyWe
  holdReq := holdReq s.phase
  holdN := holdCount s.cfg s.phase
  onO := s.pat
  ruleO := s.pat.map (matchRule · false)
  noMatchO := s.strobes.noMatch
  dflagO := s.dflag

/-- The 8-bit host port: the environment's nibble above DIR (rules R30, R32). -/
def State.hostPort (s : State) : Byte := s.portHi ++ s.dir

end Sys2Proof.Machine
end

