-- ==== Sys2Proof/Machine/Trace.lean ====
section
/-! DEFINITION. What a trace says: the written form of an event (rule R52), the document's call forms (rule R53),
and the output registers that a trace leaves (rule R100). -/

namespace Sys2Proof.Machine

/-- A tag as rule R52 writes it. -/
def tagText : Tag → String
  | .stop => "STOP"
  | .forward => "FORWARD"
  | .left => "LEFT"
  | .right => "RIGHT"
  | .softRight => "SOFT_RIGHT"
  | .softLeft => "SOFT_LEFT"
  | .back => "BACK"

/-- A number in decimal (rule R52). -/
def numText (n : Nat) : String := String.ofList (Nat.toDigits 10 n)

/-- An event as rule R52 writes it. -/
def eventText : Event → String
  | .pass => "PASS"
  | .sample l c r =>
    "SAMPLE " ++ numText l.toNat ++ ", " ++ numText c.toNat ++ ", " ++ numText r.toNat
  | .issue tag none => "ISSUE " ++ tagText tag
  | .issue tag (some d) =>
    "ISSUE " ++ tagText tag ++ ", " ++ numText d.l.toNat ++ ", " ++ numText d.r.toNat
  | .hold n => "HOLD " ++ numText n.toNat
  | .noMatch => "NOMATCH"

/-- The document's call forms (rule R53); `set_duty` with no direction is never produced and is none. -/
inductive CallForm where
  /-- `set_duty(l, r)` together with `apply(d)` -/
  | setDutyApply (d : DutyPair) (tag : Tag)
  /-- `apply(d)` alone -/
  | apply (tag : Tag)
  /-- `back()` at duty (100,100) -/
  | back
  /-- `stop()` -/
  | stop
  /-- `forward()` after `stop()` or after a turn -/
  | forward
  /-- `forward` at (100,100), rule 3 -/
  | forwardAtDuty
  deriving DecidableEq, Repr

/-- What a call form expands into (rule R53). -/
def expandCall (c : Config) : CallForm → Event
  | .setDutyApply d tag => .issue tag (some d)
  | .apply tag => .issue tag none
  | .back => .issue .back (some c.dutyBack)
  | .stop => .issue .stop none
  | .forward => .issue .forward none
  | .forwardAtDuty => .issue .forward (some c.dutyForward)

/-- The output registers DIR, DUTY_L and DUTY_R. -/
structure OutRegs where
  dir : Nibble
  dutyL : Byte
  dutyR : Byte
  deriving DecidableEq, Repr

/-- The output registers of a state. -/
def State.outRegs (s : State) : OutRegs := ⟨s.dir, s.dutyL, s.dutyR⟩

/-- What one event does to the output registers: only an ISSUE writes them (rules R78, R100). -/
def OutRegs.after (c : Config) (o : OutRegs) : Event → OutRegs
  | .issue tag none => { o with dir := enc c tag }
  | .issue tag (some d) => ⟨enc c tag, d.l, d.r⟩
  | _ => o

/-- The reset values, each overwritten by every later ISSUE that writes it (rule R100). -/
def outRegsOf (c : Config) (trace : List Event) : OutRegs :=
  trace.foldl (OutRegs.after c) ⟨Config.pDirReset, Config.pDutyLReset, Config.pDutyRReset⟩

end Sys2Proof.Machine
end

