-- ==== Sys2Proof/Safety.lean ====
section
/-! DEFINITION. The terms statements use: runs of the machine, the invariant of the sequencer's phases, passes and
the event sequences a pass may emit (rules R91, R98, R101). -/

namespace Sys2Proof.Machine

/-- `n` steps, stopping at the first fault or refusal. -/
def runFor : Nat → State → Result
  | 0, s => .next s
  | n + 1, s =>
    match step s with
    | .next t => runFor n t
    | .fault r => .fault r
    | .refused r => .refused r

/-- The environment asserts no reset in the next `n` steps. -/
def noResetFor (n : Nat) (s : State) : Bool := (s.inputs.take n).all (fun p => !p.rst)

/-- The reset state of a block built with the record `c`, with an environment that will present `xs`. -/
def resetWith (c : Config) (xs : List Pins) : State := { State.reset with cfg := c, inputs := xs }

/-- The output registers hold a code and a duty pair. -/
def State.drives (s : State) (code : Nibble) (d : DutyPair) : Bool :=
  s.dir == code && s.dutyL == d.l && s.dutyR == d.r

/-- What holds in each phase of every run from reset: LAT and RULE have a value where they are read, DFLAG is set
only at the end of a pass, P_MATCH2 is not reached with DFLAG = 0 and an all-on-line pattern (rules R28, R94,
R95), and the output registers are as the pass's earlier ISSUE steps left them. -/
def phaseInv (s : State) : Bool :=
  match s.phase with
  | .start => true
  | .sample => !s.dflag
  | .match1 => !s.dflag && s.lat.isSome
  | .r1Back => !s.dflag && s.pat == some 0b111#3
  | .r1Hold | .r1Resample =>
    !s.dflag && s.pat == some 0b111#3 && s.drives s.cfg.codeBack s.cfg.dutyBack
  | .r1Check => !s.dflag && s.lat.isSome && s.drives s.cfg.codeBack s.cfg.dutyBack
  | .r1Stop => !s.dflag && s.pat == some 0b111#3 && s.drives s.cfg.codeBack s.cfg.dutyBack
  | .r1EndHold => !s.dflag && s.pat == some 0b111#3 && s.drives s.cfg.codeStop s.cfg.dutyBack
  | .match2 =>
    if s.dflag then s.pat == some 0b111#3 && s.drives s.cfg.codeStop s.cfg.dutyBack
    else s.lat.isSome && s.pat != some 0b111#3
  | .r2Stop => !s.dflag && s.pat == some 0b000#3 && s.rule == some 2#3
  | .r2Hold | .r2Fwd =>
    !s.dflag && s.pat == some 0b000#3 && s.rule == some 2#3 && s.dir == s.cfg.codeStop
  | .turn =>
    !s.dflag && s.lat.isSome && s.rule == s.pat.map (matchRule · false) &&
      s.rule.any (3#3 ≤ ·)
  | .fwdTail =>
    !s.dflag && s.lat.isSome && s.rule == s.pat.map (matchRule · false) &&
      s.rule.any (4#3 ≤ ·) &&
      (s.rule.bind (cmdOf s.cfg)).any
        (fun c => c.duty == some ⟨s.dutyL, s.dutyR⟩ && s.dir == enc s.cfg c.tag)

/-- Whether the "enabled when" column of rule R92 holds: the sample phases need smp_valid, the hold phases
hold_done, every other phase nothing. -/
def enabled (s : State) : Bool :=
  if smpReq s.phase then s.pins.smpValid else if holdReq s.phase then s.pins.holdDone else true

/-- The "next PHASE" column of rule R92, with rule R95 for P_MATCH2. -/
def tablePhase (s : State) : Phase :=
  match s.phase with
  | .start => .sample
  | .sample => .match1
  | .match1 => if s.dflag = false ∧ s.pat = some 0b111#3 then .r1Back else .match2
  | .r1Back => .r1Hold
  | .r1Hold => .r1Resample
  | .r1Resample => .r1Check
  | .r1Check => if s.pat = some 0b111#3 then .r1Stop else .match2
  | .r1Stop => .r1EndHold
  | .r1EndHold => .match2
  | .match2 =>
    if s.dflag = true then .start
    else if s.pat = some 0b101#3 then .start
    else if s.pat = some 0b000#3 then .r2Stop
    else .turn
  | .r2Stop => .r2Hold
  | .r2Hold => .r2Fwd
  | .r2Fwd => .start
  | .turn => if s.rule = some 3#3 then .start else .fwdTail
  | .fwdTail => .start

/-- The "event" column of rule R92, with rule R95 for P_MATCH2: at most one event a step. -/
def tableEvent (s : State) : Option Event :=
  match s.phase with
  | .start => some .pass
  | .sample | .r1Resample => some (.sample s.pins.smpL s.pins.smpC s.pins.smpR)
  | .match1 | .r1Check => none
  | .r1Back => some (.issue .back (some s.cfg.dutyBack))
  | .r1Hold => some (.hold s.cfg.tBack)
  | .r1Stop | .r2Stop => some (.issue .stop none)
  | .r1EndHold => some (.hold s.cfg.tEnd)
  | .match2 => if s.dflag = false ∧ s.pat = some 0b101#3 then some .noMatch else none
  | .r2Hold => some (.hold s.cfg.tReacq)
  | .r2Fwd | .fwdTail => some (.issue .forward none)
  | .turn => (s.rule.bind (cmdOf s.cfg)).map (fun c => .issue c.tag c.duty)

/-- What the sequencer's row adds to the command an ISSUE phase runs: the next phase, and DFLAG where the
ISSUE is the last action of a rule (rules R66, R92). -/
def issueAfter (s u : State) : State :=
  match s.phase with
  | .r1Back => { u with phase := .r1Hold }
  | .r1Stop => { u with phase := .r1EndHold }
  | .r2Stop => { u with phase := .r2Hold }
  | .r2Fwd | .fwdTail => { u with dflag := true, phase := .start }
  | .turn =>
    if s.rule = some 3#3 then { u with dflag := true, phase := .start } else { u with phase := .fwdTail }
  | _ => u

/-- The step to be taken completes the last action of a rule's action list, which is what it is to fire (rules R66,
R68, R70 to R75): the end of the T_END hold, rule 2's FORWARD, rule 3's FORWARD, the tail of rules 4..7. -/
def State.fires (s : State) : Bool :=
  match s.phase with
  | .r1EndHold => s.pins.holdDone
  | .r2Fwd | .fwdTail => true
  | .turn => s.rule == some 3#3
  | _ => false

/-- Step number `m` of a run fires a rule (rule R66). It does not look at DFLAG. -/
def FiresAt (m : Nat) (s : State) : Prop :=
  ∃ u, runFor m s = .next u ∧ u.pins.rst = false ∧ u.fires = true

/-- A complete pass: `n` steps from P_START to the next P_START, with no reset (rules R91, R102). -/
def CompletePass (n : Nat) (s t : State) : Prop :=
  s.phase = .start ∧ 0 < n ∧ noResetFor n s = true ∧ runFor n s = .next t ∧ t.phase = .start ∧
    ∀ m u, 0 < m → m < n → runFor m s = .next u → u.phase ≠ .start

/-- A pass under way: `n` steps from P_START that have not come back to it, with no reset. -/
def PassUnderWay (n : Nat) (s t : State) : Prop :=
  s.phase = .start ∧ 0 < n ∧ noResetFor n s = true ∧ runFor n s = .next t ∧
    ∀ m u, 0 < m → m ≤ n → runFor m s = .next u → u.phase ≠ .start

/-- `L(k)`: the action list of rule k, k in 2..7, as events (rules R70 to R75, R101). -/
def ruleEvents (c : Config) (k : RuleNo) : List Event :=
  match k with
  | 2#3 => [.issue .stop none, .hold c.tReacq, .issue .forward none]
  | 3#3 => [.issue .forward (some c.dutyForward)]
  | 4#3 => [.issue .softLeft (some c.dutySoftLeft), .issue .forward none]
  | 5#3 => [.issue .softRight (some c.dutySoftRight), .issue .forward none]
  | 6#3 => [.issue .right (some c.dutyRight), .issue .forward none]
  | 7#3 => [.issue .left (some c.dutyLeft), .issue .forward none]
  | _ => []

/-- The duty pair that the action list of rule k, k in 2..7, leaves, from the pair before it (rules R70 to R75): the
rule's own pair, or for rule 2 the previous duty. -/
def dutyAfterRule (c : Config) (k : RuleNo) (before : DutyPair) : DutyPair :=
  match k with
  | 3#3 => c.dutyForward
  | 4#3 => c.dutySoftLeft
  | 5#3 => c.dutySoftRight
  | 6#3 => c.dutyRight
  | 7#3 => c.dutyLeft
  | _ => before

/-- The duty registers as a pair. -/
def State.duty (s : State) : DutyPair := ⟨s.dutyL, s.dutyR⟩

/-- `S(p)` for the readings `x`, where `p` is what they classify to (rule R101). -/
def sampleEvent (x : Readings) : Event := .sample x.l x.c x.r

/-- A pattern whose rule is one of 2..7: any but 0b111 and 0b101. -/
def plainPat (p : Pat) : Bool := p != 0b111#3 && p != 0b101#3

/-- What rule 1 emits up to its re-sample `y`, from the first sample `x` (rules R68, R101). -/
def recoveryEvents (c : Config) (x y : Readings) : List Event :=
  [.pass, sampleEvent x, .issue .back (some c.dutyBack), .hold c.tBack, sampleEvent y]

/-- The five event sequences a complete pass may emit, by their number in rule R101. -/
inductive PassShape (c : Config) : Nat → List Event → Prop
  | rule (x : Readings) (h : plainPat (classify c x) = true) :
    PassShape c 1 ([.pass, sampleEvent x] ++ ruleEvents c (matchRule (classify c x) false))
  | uncovered (x : Readings) (h : classify c x = 0b101#3) :
    PassShape c 2 [.pass, sampleEvent x, .noMatch]
  | terminal (x y : Readings) (hx : classify c x = 0b111#3) (hy : classify c y = 0b111#3) :
    PassShape c 3 (recoveryEvents c x y ++ [.issue .stop none, .hold c.tEnd])
  | recovered (x y : Readings) (hx : classify c x = 0b111#3) (hy : plainPat (classify c y) = true) :
    PassShape c 4 (recoveryEvents c x y ++ ruleEvents c (matchRule (classify c y) false))
  | recoveredUncovered (x y : Readings) (hx : classify c x = 0b111#3) (hy : classify c y = 0b101#3) :
    PassShape c 5 (recoveryEvents c x y ++ [.noMatch])

/-- An environment entry that answers at once: it delivers a sample, ends a hold and asserts no reset. -/
def Pins.prompt (p : Pins) : Bool := !p.rst && p.smpValid && p.holdDone

/-- The block's state and what it shows, without the environment's part. -/
def State.sameBlock (s t : State) : Bool :=
  s.phase == t.phase && s.lat == t.lat && s.dflag == t.dflag && s.rule == t.rule && s.dir == t.dir &&
    s.dutyL == t.dutyL && s.dutyR == t.dutyR && s.trace == t.trace && s.cfg == t.cfg

end Sys2Proof.Machine
end

