-- ==== Sys2Proof/Certificates/Slice0/Obligations.lean ====
section
/-! DEFINITION. The statements for the provers. Each docstring names the rule of spec/ it formalises. -/

open Sys2Proof Sys2Proof.Machine

/-! ## Reset -/

/-- Rule R114: reset overrides the step of any phase and sets every piece of the block's state; it leaves the
upper nibble as the environment has it; the first step after it is P_START's. -/
def Obligations.ResetOverridesEveryStep : Prop :=
  ∀ s : State, s.pins.rst = true →
    ∃ t, step s = .next t ∧ t.phase = .start ∧ t.dflag = false ∧ t.lat = none ∧ t.rule = none ∧
      t.dir = Config.pDirReset ∧ t.dutyL = Config.pDutyLReset ∧ t.dutyR = Config.pDutyRReset ∧
      t.trace = [] ∧ t.outputs.noMatchO = false ∧ t.portHi = s.pins.portHi.getD s.portHi ∧
      (t.pins.rst = false → ∃ u, step t = .next u ∧ u.phase = .sample ∧ u.trace = [.pass])

/-- The reset values; a read of LAT or RULE while it holds no value is a fault; and no run from reset, under any
environment, performs such a read or meets any other fault or a refusal (derived from rule R28; that a waiting block
has a next state, so that a run has every length, is the model's choice, assumption log 8). -/
def Obligations.ResetValuesAndNoReadBeforeWrite : Prop :=
  (State.reset.phase = .start ∧ State.reset.dflag = false ∧ State.reset.lat = none ∧
    State.reset.rule = none ∧ State.reset.dir = Config.pDirReset ∧
    State.reset.dutyL = Config.pDutyLReset ∧ State.reset.dutyR = Config.pDutyRReset ∧
    State.reset.strobes.noMatch = false ∧ State.reset.trace = []) ∧
  (∀ s : State, s.pins.rst = false → s.lat = none →
    s.phase = .r1Check ∨ ((s.phase = .match1 ∨ s.phase = .match2) ∧ s.dflag = false) →
    step s = .fault .latNoValue) ∧
  (∀ s : State, s.pins.rst = false → s.rule = none → s.phase = .turn → step s = .fault .ruleNoValue) ∧
  (∀ (c : Config) (xs : List Pins) (n : Nat), ∃ t, runFor n (resetWith c xs) = .next t)

/-- The two invariants hold at reset, whatever the environment will present (derived from rules R28, R100). -/
def Obligations.ResetMeetsInvariants : Prop :=
  ∀ (c : Config) (xs : List Pins), phaseInv (resetWith c xs) = true ∧
    (resetWith c xs).outRegs = outRegsOf c (resetWith c xs).trace

/-! ## The configuration record -/

/-- The constants are one record whose default is the document's values; they are fixed when the block is built and
do not change while it runs, and the block runs with every record whose codes are the listed ones (derived from
rules R6, R58 and entries I1, I13; that the record stands in a field of the state, and that a waiting
block has a next state, so that a run has every length, are the model's choices, assumption logs 14 and 8). -/
def Obligations.ConstantsAreOneRecord : Prop :=
  documentConfig =
    { threshold := 16, dutyBack := ⟨100, 100⟩, dutyForward := ⟨100, 100⟩, dutySoftLeft := ⟨0, 150⟩,
      dutySoftRight := ⟨150, 0⟩, dutyRight := ⟨130, 50⟩, dutyLeft := ⟨50, 130⟩, tBack := 350, tEnd := 500,
      tReacq := 250, codeStop := 0b0000, codeForward := 0b0110, codeLeft := 0b0101, codeRight := 0b1010,
      codeSoftRight := 0b0010, codeSoftLeft := 0b0100, codeBack := 0b1001 } ∧
  build documentConfig = .ok State.reset ∧
  (∀ c : Config, c.wf = true → build c = .ok { State.reset with cfg := c }) ∧
  (∀ c : Config, c.wf = false → build c = .error .notTheListedCodes) ∧
  (∀ (i : Instr) (s t : State), exec i s = .next t → t.cfg = s.cfg) ∧
  (∀ s t : State, step s = .next t → t.cfg = s.cfg) ∧
  (∀ (c : Config) (xs : List Pins) (n : Nat), ∃ t, runFor n (resetWith c xs) = .next t ∧ t.cfg = c)

/-! ## The comparator array and the rule matcher -/

/-- Rule R56: CMP is the unsigned, inclusive comparison with THRESHOLD, the same in all three channels; with the
document's THRESHOLD = 16, 17 of the 256 values give 1. -/
def Obligations.ComparatorIsInclusiveThreshold : Prop :=
  (∀ (c : Config) (v : Byte), onLine c v = true ↔ v.toNat ≤ c.threshold.toNat) ∧
  (∀ (c : Config) (x : Readings), classify c x =
    BitVec.ofBool (onLine c x.l) ++ BitVec.ofBool (onLine c x.c) ++ BitVec.ofBool (onLine c x.r)) ∧
  documentConfig.threshold = 16 ∧ onLine documentConfig 0 = true ∧ onLine documentConfig 16 = true ∧
  onLine documentConfig 17 = false ∧ onLine documentConfig 255 = false ∧
  ((List.range 256).filter (fun n => onLine documentConfig (BitVec.ofNat 8 n))).length = 17

/-- Rule R57: the gate form is CMP for THRESHOLD = 16; with another threshold rule R56 governs and the gate form
does not apply. -/
def Obligations.ComparatorGateForm : Prop :=
  (∀ (c : Config) (v : Byte), c.threshold = 16 → onLineGates v = onLine c v) ∧
  (∀ (c : Config) (v : Byte), onLine c v = true ↔ v.toNat ≤ c.threshold.toNat) ∧
  (∀ c : Config, c.threshold ≠ 16 → ∃ v, onLineGates v ≠ onLine c v)

/-- Rule R60, items 1 and 2 (derived): in one block PAT is a function of LAT alone, and each lane is monotone, for
every threshold. -/
def Obligations.ClassificationMonotone : Prop :=
  (∀ s t : State, s.lat = t.lat → s.cfg = t.cfg → s.pat = t.pat) ∧
  (∀ th v1 v2 : Byte, v1 ≤ v2 → onLineAt th v2 = true → onLineAt th v1 = true)

/-- Rule R59: PAT = {on_l, on_c, on_r}, one independent lane for each latch; no value before the first sample. -/
def Obligations.ComparatorArrayLanes : Prop :=
  (∀ (c : Config) (x : Readings), (classify c x).getLsbD 2 = onLine c x.l ∧
    (classify c x).getLsbD 1 = onLine c x.c ∧ (classify c x).getLsbD 0 = onLine c x.r) ∧
  (∀ (s : State) (x : Readings), s.lat = some x → s.pat = some (classify s.cfg x)) ∧
  (∀ s : State, s.lat = none → s.pat = none) ∧
  classify documentConfig ⟨5, 200, 17⟩ = 0b100#3

/-- Rule R64: the truth table of the match lines m1..m7 and of Match(PAT, 0); at most one line is 1. -/
def Obligations.MatcherTruthTable : Prop :=
  ((matchLines 0b000#3).map Prod.snd = [false, true, false, false, false, false, false] ∧
    matchRule 0b000#3 false = 2) ∧
  ((matchLines 0b001#3).map Prod.snd = [false, false, false, false, false, true, false] ∧
    matchRule 0b001#3 false = 6) ∧
  ((matchLines 0b010#3).map Prod.snd = [false, false, true, false, false, false, false] ∧
    matchRule 0b010#3 false = 3) ∧
  ((matchLines 0b011#3).map Prod.snd = [false, false, false, false, true, false, false] ∧
    matchRule 0b011#3 false = 5) ∧
  ((matchLines 0b100#3).map Prod.snd = [false, false, false, false, false, false, true] ∧
    matchRule 0b100#3 false = 7) ∧
  ((matchLines 0b101#3).map Prod.snd = [false, false, false, false, false, false, false] ∧
    matchRule 0b101#3 false = 0) ∧
  ((matchLines 0b110#3).map Prod.snd = [false, false, false, true, false, false, false] ∧
    matchRule 0b110#3 false = 4) ∧
  ((matchLines 0b111#3).map Prod.snd = [true, false, false, false, false, false, false] ∧
    matchRule 0b111#3 false = 1) ∧
  (∀ p : Pat, ((matchLines p).filter Prod.snd).length ≤ 1)

/-- Rule R62: the priority encoder answers the first line that is 1, 0 where none is, and 0 for every pattern
when DFLAG = 1. -/
def Obligations.MatcherPriority : Prop :=
  (∀ p : Pat, matchRule p true = 0) ∧
  (∀ (p : Pat) (k : RuleNo), k ≠ 0 →
    (matchRule p false = k ↔
      (k, true) ∈ matchLines p ∧ ∀ j : RuleNo, j < k → (j, true) ∉ matchLines p)) ∧
  (∀ p : Pat, matchRule p false = 0 ↔ ∀ k : RuleNo, (k, true) ∉ matchLines p) ∧
  matchRule 0b101#3 false = 0 ∧ matchRule 0b110#3 false = 4

/-! ## The command multiplexer, the encoder and the codes -/

/-- Rule R65: CmdOf; CmdOf(0) is not defined, and no run from reset comes to P_TURN, where CmdOf is used, with a
RULE that has no command. -/
def Obligations.CommandMux : Prop :=
  (∀ c : Config, cmdOf c 0 = none ∧ cmdOf c 1 = some ⟨.back, some c.dutyBack⟩ ∧
    cmdOf c 2 = some ⟨.stop, none⟩ ∧ cmdOf c 3 = some ⟨.forward, some c.dutyForward⟩ ∧
    cmdOf c 4 = some ⟨.softLeft, some c.dutySoftLeft⟩ ∧ cmdOf c 5 = some ⟨.softRight, some c.dutySoftRight⟩ ∧
    cmdOf c 6 = some ⟨.right, some c.dutyRight⟩ ∧ cmdOf c 7 = some ⟨.left, some c.dutyLeft⟩) ∧
  (∀ (c : Config) (xs : List Pins) (n : Nat) (t : State), runFor n (resetWith c xs) = .next t →
    t.phase = .turn → ∃ k d, t.rule = some k ∧ cmdOf t.cfg k = some d)

/-- Rule R77: the encoder's seven codes, in every record that is accepted; it cannot produce a reserved one; the duty
pair passes unchanged. -/
def Obligations.EncoderCodes : Prop :=
  (∀ c : Config, enc c .stop = c.codeStop ∧ enc c .forward = c.codeForward ∧ enc c .left = c.codeLeft ∧
    enc c .right = c.codeRight ∧ enc c .softRight = c.codeSoftRight ∧ enc c .softLeft = c.codeSoftLeft ∧
    enc c .back = c.codeBack) ∧
  (∀ c : Config, c.wf = true → enc c .stop = 0b0000 ∧ enc c .forward = 0b0110 ∧ enc c .left = 0b0101 ∧
    enc c .right = 0b1010 ∧ enc c .softRight = 0b0010 ∧ enc c .softLeft = 0b0100 ∧ enc c .back = 0b1001 ∧
    ∀ code : Nibble, legalDir4 code = true ↔ ∃ tag, enc c tag = code) ∧
  (∀ (s : State) (tag : Tag) (d : DutyPair),
    (s.issue tag (some d)).dutyL = d.l ∧ (s.issue tag (some d)).dutyR = d.r)

/-- Decode and encode agree: every well-formed instruction reads back from its word, and a word that decodes is
the word of what it decodes to (derived from rules R44, R47, R48). -/
def Obligations.DecodeEncodeAgree : Prop :=
  (∀ i : Instr, i.wf = true → decode (encode i) = .ok i) ∧
  (∀ (c : Code) (i : Instr), decode c = .ok i → encode i = c)

/-- Decoding is right (derived from rules R44, R47, R48): the eight patterns and the seven direction codes
name their rows, and every other direction code is refused as reserved (rule R50). -/
def Obligations.OpcodeWordsDecode : Prop :=
  decode (.pat3 0b111#3) = .ok .rule1Recover ∧ decode (.pat3 0b000#3) = .ok .rule2Reacquire ∧
  decode (.pat3 0b010#3) = .ok .rule3Forward ∧ decode (.pat3 0b110#3) = .ok .rule4SoftLeft ∧
  decode (.pat3 0b011#3) = .ok .rule5SoftRight ∧ decode (.pat3 0b001#3) = .ok .rule6Right ∧
  decode (.pat3 0b100#3) = .ok .rule7Left ∧ decode (.pat3 0b101#3) = .ok .noMatch ∧
  decode (.dir4 0b0000#4) = .ok .stop ∧ decode (.dir4 0b0010#4) = .ok .softRight ∧
  decode (.dir4 0b0100#4) = .ok .softLeft ∧ decode (.dir4 0b0101#4) = .ok .left ∧
  decode (.dir4 0b0110#4) = .ok .forward ∧ decode (.dir4 0b1001#4) = .ok .back ∧
  decode (.dir4 0b1010#4) = .ok .right ∧
  (∀ c : Nibble, legalDir4 c = false → decode (.dir4 c) = .error (.reservedDirection c))

/-- Entry I1: a configuration record is accepted exactly when its CODE_* constants are the seven listed values,
and the document's record is (derived). -/
def Obligations.OtherCodesAreRefused : Prop :=
  (∀ c : Config, c.accept = .ok c ↔
    c.codeStop = 0b0000 ∧ c.codeForward = 0b0110 ∧ c.codeLeft = 0b0101 ∧ c.codeRight = 0b1010 ∧
      c.codeSoftRight = 0b0010 ∧ c.codeSoftLeft = 0b0100 ∧ c.codeBack = 0b1001) ∧
  (∀ c : Config, c.accept = .ok c ∨ c.accept = .error .notTheListedCodes) ∧
  documentConfig.accept = .ok documentConfig

/-! ## ISSUE and the seven direction commands -/

/-- Rule R78: ISSUE writes the code, and the duty pair exactly when it carries one; the strobes, the event and
the host port say so; nothing else is written. -/
def Obligations.IssueAppliesOneCommand : Prop :=
  (∀ (s : State) (tag : Tag) (l r : Byte),
    s.issue tag (some ⟨l, r⟩) =
      { s with dir := enc s.cfg tag, dutyL := l, dutyR := r, strobes := ⟨true, true, false⟩,
               trace := s.trace ++ [.issue tag (some ⟨l, r⟩)] }) ∧
  (∀ (s : State) (tag : Tag),
    s.issue tag none =
      { s with dir := enc s.cfg tag, strobes := ⟨true, false, false⟩,
               trace := s.trace ++ [.issue tag none] }) ∧
  (∀ (s : State) (tag : Tag) (duty : Option DutyPair),
    (s.issue tag duty).hostPort = s.portHi ++ enc s.cfg tag ∧ (s.issue tag duty).outputs.dirWe = true ∧
      (s.issue tag duty).outputs.dirO = enc s.cfg tag ∧
      (s.issue tag duty).outputs.dutyWe = duty.isSome)

/-- Rule R80 (derived: its "used by" clause is `CommandsIssuedOnlyWhereUsed`): STOP is direction-only and
completes in every state. -/
def Obligations.StopIsDirectionOnly : Prop :=
  ∀ s : State, exec .stop s =
    .next { s with dir := s.cfg.codeStop, strobes := ⟨true, false, false⟩,
                   trace := s.trace ++ [.issue .stop none] }

/-- FORWARD carries DUTY_FORWARD in P_TURN, where it is rule 3's command, and is direction-only elsewhere; it
completes in every state (derived from rule R81, which names the rule; that the meaning picks the form by the phase
alone is the model's choice, assumption log 12). -/
def Obligations.ForwardInBothForms : Prop :=
  ∀ s : State,
    (s.phase = .turn → exec .forward s =
      .next { s with dir := s.cfg.codeForward,
                     dutyL := s.cfg.dutyForward.l, dutyR := s.cfg.dutyForward.r, strobes := ⟨true, true, false⟩,
                     trace := s.trace ++ [.issue .forward (some s.cfg.dutyForward)] }) ∧
    (s.phase ≠ .turn → exec .forward s =
      .next { s with dir := s.cfg.codeForward, strobes := ⟨true, false, false⟩,
                     trace := s.trace ++ [.issue .forward none] })

/-- Rules R82 to R86 (derived): LEFT, RIGHT, SOFT_RIGHT, SOFT_LEFT and BACK write their code and their duty pair
and complete in every state. -/
def Obligations.DutyCarryingCommands : Prop :=
  ∀ s : State,
    exec .left s =
      .next { s with dir := s.cfg.codeLeft,
                     dutyL := s.cfg.dutyLeft.l, dutyR := s.cfg.dutyLeft.r, strobes := ⟨true, true, false⟩,
                     trace := s.trace ++ [.issue .left (some s.cfg.dutyLeft)] } ∧
    exec .right s =
      .next { s with dir := s.cfg.codeRight,
                     dutyL := s.cfg.dutyRight.l, dutyR := s.cfg.dutyRight.r, strobes := ⟨true, true, false⟩,
                     trace := s.trace ++ [.issue .right (some s.cfg.dutyRight)] } ∧
    exec .softRight s =
      .next { s with dir := s.cfg.codeSoftRight,
                     dutyL := s.cfg.dutySoftRight.l, dutyR := s.cfg.dutySoftRight.r, strobes := ⟨true, true, false⟩,
                     trace := s.trace ++ [.issue .softRight (some s.cfg.dutySoftRight)] } ∧
    exec .softLeft s =
      .next { s with dir := s.cfg.codeSoftLeft,
                     dutyL := s.cfg.dutySoftLeft.l, dutyR := s.cfg.dutySoftLeft.r, strobes := ⟨true, true, false⟩,
                     trace := s.trace ++ [.issue .softLeft (some s.cfg.dutySoftLeft)] } ∧
    exec .back s =
      .next { s with dir := s.cfg.codeBack,
                     dutyL := s.cfg.dutyBack.l, dutyR := s.cfg.dutyBack.r, strobes := ⟨true, true, false⟩,
                     trace := s.trace ++ [.issue .back (some s.cfg.dutyBack)] }

/-- The "used by" and "used only" clauses of rules R80 to R86 (derived): which phase, and which rule, issues each
command, and with which duty pair. -/
def Obligations.CommandsIssuedOnlyWhereUsed : Prop :=
  ∀ (s t : State) (tag : Tag) (duty : Option DutyPair), phaseInv s = true → s.pins.rst = false →
    step s = .next t → t.trace = s.trace ++ [.issue tag duty] →
    match tag with
    | .stop => duty = none ∧ (s.phase = .r1Stop ∨ s.phase = .r2Stop)
    | .forward =>
      (duty = some s.cfg.dutyForward ∧ s.phase = .turn ∧ s.rule = some 3#3) ∨
        (duty = none ∧ (s.phase = .r2Fwd ∨ s.phase = .fwdTail))
    | .left => duty = some s.cfg.dutyLeft ∧ s.phase = .turn ∧ s.rule = some 7#3
    | .right => duty = some s.cfg.dutyRight ∧ s.phase = .turn ∧ s.rule = some 6#3
    | .softRight => duty = some s.cfg.dutySoftRight ∧ s.phase = .turn ∧ s.rule = some 5#3
    | .softLeft => duty = some s.cfg.dutySoftLeft ∧ s.phase = .turn ∧ s.rule = some 4#3
    | .back => duty = some s.cfg.dutyBack ∧ s.phase = .r1Back

/-! ## The rule-table entries, one action a step -/

/-- RULE1_RECOVER runs the action of the present phase of its list (derived from rules R68, R92). -/
def Obligations.Rule1RecoverActions : Prop :=
  ∀ s : State,
    (s.phase = .match1 → s.dflag = false → exec .rule1Recover s =
      .next { s with phase := .r1Back, strobes := .low }) ∧
    (s.phase = .r1Back → exec .rule1Recover s =
      .next { s with phase := .r1Hold, dir := s.cfg.codeBack, dutyL := s.cfg.dutyBack.l, dutyR := s.cfg.dutyBack.r,
                     strobes := ⟨true, true, false⟩,
                     trace := s.trace ++ [.issue .back (some s.cfg.dutyBack)] }) ∧
    (s.phase = .r1Hold → s.pins.holdDone = true → exec .rule1Recover s =
      .next { s with phase := .r1Resample, strobes := .low, trace := s.trace ++ [.hold s.cfg.tBack] }) ∧
    (s.phase = .r1Resample → s.pins.smpValid = true → exec .rule1Recover s =
      .next { s with phase := .r1Check, strobes := .low,
                     lat := some ⟨s.pins.smpL, s.pins.smpC, s.pins.smpR⟩,
                     trace := s.trace ++ [.sample s.pins.smpL s.pins.smpC s.pins.smpR] }) ∧
    (s.phase = .r1Check → exec .rule1Recover s =
      .next { s with phase := .r1Stop, strobes := .low }) ∧
    (s.phase = .r1Stop → exec .rule1Recover s =
      .next { s with phase := .r1EndHold, dir := s.cfg.codeStop, strobes := ⟨true, false, false⟩,
                     trace := s.trace ++ [.issue .stop none] }) ∧
    (s.phase = .r1EndHold → s.pins.holdDone = true → exec .rule1Recover s =
      .next { s with phase := .match2, dflag := true, strobes := .low,
                     trace := s.trace ++ [.hold s.cfg.tEnd] })

/-- RULE2_REACQUIRE runs the action of the present phase of its list (derived from rules R70, R92). -/
def Obligations.Rule2ReacquireActions : Prop :=
  ∀ s : State,
    (s.phase = .match2 → s.dflag = false → exec .rule2Reacquire s =
      .next { s with phase := .r2Stop, rule := some 2, strobes := .low }) ∧
    (s.phase = .r2Stop → exec .rule2Reacquire s =
      .next { s with phase := .r2Hold, dir := s.cfg.codeStop, strobes := ⟨true, false, false⟩,
                     trace := s.trace ++ [.issue .stop none] }) ∧
    (s.phase = .r2Hold → s.pins.holdDone = true → exec .rule2Reacquire s =
      .next { s with phase := .r2Fwd, strobes := .low, trace := s.trace ++ [.hold s.cfg.tReacq] }) ∧
    (s.phase = .r2Fwd → exec .rule2Reacquire s =
      .next { s with phase := .start, dflag := true, dir := s.cfg.codeForward, strobes := ⟨true, false, false⟩,
                     trace := s.trace ++ [.issue .forward none] })

/-- RULE3_FORWARD, and the turn entries RULE4 to RULE7 with their tail, run the action of the present phase of
their lists (derived from rules R71 to R75, R92). -/
def Obligations.TurnEntryActions : Prop :=
  ∀ s : State,
    (s.phase = .match2 → s.dflag = false →
      exec .rule3Forward s = .next { s with phase := .turn, rule := some 3, strobes := .low } ∧
      exec .rule4SoftLeft s = .next { s with phase := .turn, rule := some 4, strobes := .low } ∧
      exec .rule5SoftRight s = .next { s with phase := .turn, rule := some 5, strobes := .low } ∧
      exec .rule6Right s = .next { s with phase := .turn, rule := some 6, strobes := .low } ∧
      exec .rule7Left s = .next { s with phase := .turn, rule := some 7, strobes := .low }) ∧
    (s.phase = .turn →
      exec .rule3Forward s =
        .next { s with phase := .start, dflag := true, dir := s.cfg.codeForward,
                       dutyL := s.cfg.dutyForward.l, dutyR := s.cfg.dutyForward.r,
                       strobes := ⟨true, true, false⟩,
                       trace := s.trace ++ [.issue .forward (some s.cfg.dutyForward)] } ∧
      exec .rule4SoftLeft s =
        .next { s with phase := .fwdTail, dir := s.cfg.codeSoftLeft,
                       dutyL := s.cfg.dutySoftLeft.l, dutyR := s.cfg.dutySoftLeft.r,
                       strobes := ⟨true, true, false⟩,
                       trace := s.trace ++ [.issue .softLeft (some s.cfg.dutySoftLeft)] } ∧
      exec .rule5SoftRight s =
        .next { s with phase := .fwdTail, dir := s.cfg.codeSoftRight,
                       dutyL := s.cfg.dutySoftRight.l, dutyR := s.cfg.dutySoftRight.r,
                       strobes := ⟨true, true, false⟩,
                       trace := s.trace ++ [.issue .softRight (some s.cfg.dutySoftRight)] } ∧
      exec .rule6Right s =
        .next { s with phase := .fwdTail, dir := s.cfg.codeRight,
                       dutyL := s.cfg.dutyRight.l, dutyR := s.cfg.dutyRight.r,
                       strobes := ⟨true, true, false⟩,
                       trace := s.trace ++ [.issue .right (some s.cfg.dutyRight)] } ∧
      exec .rule7Left s =
        .next { s with phase := .fwdTail, dir := s.cfg.codeLeft, dutyL := s.cfg.dutyLeft.l, dutyR := s.cfg.dutyLeft.r,
                       strobes := ⟨true, true, false⟩,
                       trace := s.trace ++ [.issue .left (some s.cfg.dutyLeft)] }) ∧
    (s.phase = .fwdTail → ∀ i ∈ [Instr.rule4SoftLeft, .rule5SoftRight, .rule6Right, .rule7Left],
      exec i s =
        .next { s with phase := .start, dflag := true, dir := s.cfg.codeForward, strobes := ⟨true, false, false⟩,
                       trace := s.trace ++ [.issue .forward none] })

/-- The match steps of an entry that is not taken there (derived from rules R63, R92, R94, R95): with DFLAG = 1
P_MATCH2 ends the pass with no event and P_MATCH1 passes on; with DFLAG = 0 P_MATCH1, and at any DFLAG
P_R1_CHECK, pass every entry but RULE1_RECOVER on to P_MATCH2. -/
def Obligations.EntriesPassedOver : Prop :=
  ∀ (s : State) (p : Pat),
    (s.phase = .match2 → s.dflag = true →
      exec (decodePat3 p) s = .next { s with phase := .start, strobes := .low }) ∧
    (s.phase = .match1 → s.dflag = true ∨ p ≠ 0b111#3 →
      exec (decodePat3 p) s = .next { s with phase := .match2, strobes := .low }) ∧
    (s.phase = .r1Check → p ≠ 0b111#3 →
      exec (decodePat3 p) s = .next { s with phase := .match2, strobes := .low })

/-- Rule R76: NOMATCH writes no output register and leaves DFLAG at 0; its event and its strobe happen exactly at
P_MATCH2 with DFLAG = 0 and PAT = 0b101. -/
def Obligations.NoMatchIsAnObservableNoOp : Prop :=
  (∀ s : State, s.phase = .match2 → s.dflag = false → exec .noMatch s =
    .next { s with phase := .start, rule := some 0, strobes := ⟨false, false, true⟩,
                   trace := s.trace ++ [.noMatch] }) ∧
  (∀ s : State, s.pins.rst = false → s.phase = .match2 → s.dflag = false → s.pat = some 0b101#3 →
    ∃ t, step s = .next t ∧
      t = { s with phase := .start, rule := some 0, strobes := ⟨false, false, true⟩,
                   trace := s.trace ++ [.noMatch], portHi := t.portHi, inputs := t.inputs }) ∧
  (∀ s t : State, s.pins.rst = false → step s = .next t →
    (t.trace = s.trace ++ [.noMatch] ↔ s.phase = .match2 ∧ s.dflag = false ∧ s.pat = some 0b101#3) ∧
    (t.strobes.noMatch = true ↔ s.phase = .match2 ∧ s.dflag = false ∧ s.pat = some 0b101#3))

/-! ## The step -/

/-- A step runs the decoded instruction: in P_MATCH1 and P_MATCH2 with DFLAG = 0, and in P_R1_CHECK, it is exec of
the entry that the present pattern decodes to, and then the environment's move (derived from rules R47, R92). -/
def Obligations.StepRunsMatchedEntry : Prop :=
  ∀ (s : State) (p : Pat) (i : Instr), s.pins.rst = false → s.pat = some p →
    decode (.pat3 p) = .ok i → i.wf = true →
    s.phase = .r1Check ∨ ((s.phase = .match1 ∨ s.phase = .match2) ∧ s.dflag = false) →
    step s = onNext State.tick (exec i s)

/-- A step runs the entry in progress: rule 1 and rule 2 in their own phases, and in P_TURN and P_FWD_TAIL the
entry whose number RULE holds (derived from rules R46, R92). -/
def Obligations.StepRunsEntryInProgress : Prop :=
  ∀ s : State, s.pins.rst = false →
    (s.phase ∈ [Phase.r1Back, .r1Hold, .r1Resample, .r1Stop, .r1EndHold] →
      step s = onNext State.tick (exec .rule1Recover s)) ∧
    (s.phase ∈ [Phase.r2Stop, .r2Hold, .r2Fwd] →
      step s = onNext State.tick (exec .rule2Reacquire s)) ∧
    (s.phase = .turn ∨ s.phase = .fwdTail →
      (s.rule = some 3 → s.phase = .turn → step s = onNext State.tick (exec .rule3Forward s)) ∧
      (s.rule = some 4 → step s = onNext State.tick (exec .rule4SoftLeft s)) ∧
      (s.rule = some 5 → step s = onNext State.tick (exec .rule5SoftRight s)) ∧
      (s.rule = some 6 → step s = onNext State.tick (exec .rule6Right s)) ∧
      (s.rule = some 7 → step s = onNext State.tick (exec .rule7Left s)))

/-- In an ISSUE phase the code the encoder gives decodes, with an accepted record, to a command, and the step is
exec of that command, then the row's next phase and DFLAG, then the environment's move (derived from rules R48, R77,
R78, R92). -/
def Obligations.StepRunsIssuedCommand : Prop :=
  ∀ (s : State) (tag : Tag), s.pins.rst = false → fetchCommand s = some tag →
    (s.cfg.wf = true → decode (.dir4 (enc s.cfg tag)) = .ok tag.instr) ∧
    step s = onNext (fun u => (issueAfter s u).tick) (exec tag.instr s)

/-- A table word is put where the next step runs it (derived; the placing is the model's choice, assumption
log 4). With THRESHOLD = 255 no reading is off line, so only RULE1_RECOVER can be selected there. -/
def Obligations.PlacedWordRunsNext : Prop :=
  ∀ (s : State) (nbits w : Nat) (i : Instr), decodeTableWord nbits w = some i →
    match encode i with
    | .pat3 p =>
      s.cfg.threshold ≠ 255 ∨ p = 0b111#3 →
      step (s.withFetchWord nbits w) = onNext State.tick (exec i (s.withFetchWord nbits w))
    | .dir4 _ =>
      step (s.withFetchWord nbits w) =
        onNext (fun u => (issueAfter (s.withFetchWord nbits w) u).tick)
          (exec i (s.withFetchWord nbits w))

/-- P_START clears DFLAG, emits PASS and changes no other register (derived from rules R92, R93; the environment's
list moving on is the model's, assumption log 5). -/
def Obligations.PassStartsByClearingTheFlag : Prop :=
  ∀ s : State, s.pins.rst = false → s.phase = .start →
    step s = .next { s with phase := .sample, dflag := false, strobes := .low,
                            trace := s.trace ++ [.pass],
                            portHi := s.pins.portHi.getD s.portHi, inputs := s.inputs.tail }

/-- The first step of a pass, and that no later step reads the LAT or RULE a pass began with: two runs from P_START
that differ in nothing else stay equal in everything but LAT and RULE themselves, which on_o and rule_o show until
the sample, rule R23 (derived from rule R93; that a waiting block has a next state, so that a run has every length,
is the model's choice, assumption log 8). -/
def Obligations.OldReadingsAndRuleNeverMatter : Prop :=
  (∀ s : State, s.pins.rst = false → s.phase = .start →
    ∃ t, step s = .next t ∧ t.dflag = false ∧ t.trace = s.trace ++ [.pass] ∧ t.lat = s.lat ∧
      t.rule = s.rule ∧ t.dir = s.dir ∧ t.dutyL = s.dutyL ∧ t.dutyR = s.dutyR) ∧
  (∀ (s : State) (x : Option Readings) (k : Option RuleNo) (n : Nat), s.phase = .start →
    ∃ t t', runFor n s = .next t ∧ runFor n { s with lat := x, rule := k } = .next t' ∧
      t' = { t with lat := t'.lat, rule := t'.rule })

/-- Rule R8: the left reading comes from conversion channel 3, the center reading from channel 2 and the right
reading from channel 1, in both sample phases. -/
def Obligations.SamplesReadTheirChannels : Prop :=
  ∀ s : State, s.phase = .sample ∨ s.phase = .r1Resample → s.pins.rst = false → s.pins.smpValid = true →
    ∃ t, step s = .next t ∧ t.lat = some ⟨s.pins.ch3, s.pins.ch2, s.pins.ch1⟩ ∧
      t.trace = s.trace ++ [.sample s.pins.ch3 s.pins.ch2 s.pins.ch1]

/-- A sample phase asks for a sample; a delivered triple is latched, reported and passed on in one step; with no
delivery the block waits, for any number of steps (derived from rule R54; that a wait is a model step in which only
the environment moves on is the model's choice, assumption logs 5 and 8). -/
def Obligations.SampleLatchesOrWaits : Prop :=
  ∀ s : State, s.phase = .sample ∨ s.phase = .r1Resample →
    s.outputs.smpReq = true ∧
    (s.pins.rst = false → s.pins.smpValid = true →
      step s = .next { s with phase := (if s.phase = .sample then .match1 else .r1Check),
                              lat := some ⟨s.pins.smpL, s.pins.smpC, s.pins.smpR⟩, strobes := .low,
                              trace := s.trace ++ [.sample s.pins.smpL s.pins.smpC s.pins.smpR],
                              portHi := s.pins.portHi.getD s.portHi, inputs := s.inputs.tail }) ∧
    (∀ t, s.pins.rst = false → s.pins.smpValid = true → step s = .next t →
      t.outputs.smpReq = false) ∧
    (∀ n : Nat, (∀ p ∈ s.inputs.take n, p.rst = false ∧ p.smpValid = false) →
      ∃ t, runFor n s = .next t ∧ s.sameBlock t = true ∧ t.outputs.smpReq = true)

/-- A hold phase asserts hold_req with its count; when the delay ends it emits HOLD n and goes on; until then the
block stays as it is, for any number of steps (derived from rule R97; that a wait is a model step in which only the
environment moves on is the model's choice, assumption logs 5 and 8). -/
def Obligations.HoldFreezesTheBlock : Prop :=
  ∀ (s : State) (n : Count) (next : Phase),
    (s.phase, n, next) ∈
      [(Phase.r1Hold, s.cfg.tBack, Phase.r1Resample), (Phase.r1EndHold, s.cfg.tEnd, Phase.match2),
        (Phase.r2Hold, s.cfg.tReacq, Phase.r2Fwd)] →
    s.outputs.holdReq = true ∧ s.outputs.holdN = some n ∧
    (s.pins.rst = false → s.pins.holdDone = true →
      step s = .next { s with phase := next,
                              dflag := (if s.phase = .r1EndHold then true else s.dflag),
                              strobes := .low, trace := s.trace ++ [.hold n],
                              portHi := s.pins.portHi.getD s.portHi, inputs := s.inputs.tail }) ∧
    (∀ k : Nat, (∀ p ∈ s.inputs.take k, p.rst = false ∧ p.holdDone = false) →
      ∃ t, runFor k s = .next t ∧ s.sameBlock t = true ∧ t.outputs.holdReq = true ∧
        t.outputs.holdN = some n)

/-- The two kinds of in-flight state: while a sample is pending or a hold is in progress no register changes and no
port is written; in every other case the block does not wait (derived from rule R26; a wait as a model step is the
model's choice, assumption log 8). -/
def Obligations.PendingChangesNothing : Prop :=
  ∀ s t : State, s.pins.rst = false → step s = .next t →
    (smpReq s.phase = true ∧ s.pins.smpValid = false ∨ holdReq s.phase = true ∧ s.pins.holdDone = false →
      s.sameBlock t = true ∧ t.strobes = ⟨false, false, false⟩) ∧
    (¬ (smpReq s.phase = true ∧ s.pins.smpValid = false ∨
        holdReq s.phase = true ∧ s.pins.holdDone = false) → t.phase ≠ s.phase)

/-- Rule R94: P_MATCH1 tests rule 1's condition against the sample, with DFLAG = 0; P_R1_CHECK tests it against the
re-sample only; neither writes a register or emits an event. -/
def Obligations.MatchOneAndRecheck : Prop :=
  ∀ s : State, s.pins.rst = false →
    (s.phase = .match1 → phaseInv s = true → s.dflag = false) ∧
    (∀ p, s.phase = .match1 → s.dflag = false → s.pat = some p →
      ∃ t, step s = .next t ∧
        t = { s with phase := (if p = 0b111#3 then .r1Back else .match2), strobes := .low,
                     portHi := t.portHi, inputs := t.inputs }) ∧
    (∀ p, s.phase = .r1Check → s.pat = some p →
      ∃ t, step s = .next t ∧
        t = { s with phase := (if p = 0b111#3 then .r1Stop else .match2), strobes := .low,
                     portHi := t.portHi, inputs := t.inputs })

/-- Rule R95: P_MATCH2; and k = 1 is a fault there that no state meeting the invariant can reach. -/
def Obligations.MatchTwoSelectsTheRule : Prop :=
  ∀ s : State, s.pins.rst = false → s.phase = .match2 →
    (s.dflag = true → ∃ t, step s = .next t ∧
      t = { s with phase := .start, strobes := .low, portHi := t.portHi, inputs := t.inputs }) ∧
    (∀ p, s.dflag = false → s.pat = some p →
      (matchRule p false = 0 → ∃ t, step s = .next t ∧
        t = { s with phase := .start, rule := some 0, strobes := ⟨false, false, true⟩,
                     trace := s.trace ++ [.noMatch], portHi := t.portHi, inputs := t.inputs }) ∧
      (matchRule p false = 1 → step s = .fault .ruleOneAtMatch2) ∧
      (matchRule p false = 2 → ∃ t, step s = .next t ∧
        t = { s with phase := .r2Stop, rule := some 2, strobes := .low, portHi := t.portHi,
                     inputs := t.inputs }) ∧
      (3 ≤ matchRule p false → ∃ t, step s = .next t ∧
        t = { s with phase := .turn, rule := some (matchRule p false), strobes := .low, portHi := t.portHi,
                     inputs := t.inputs })) ∧
    (phaseInv s = true → s.dflag = false → ∃ p, s.pat = some p ∧ matchRule p false ≠ 1)

/-- Rule R96: P_TURN issues CmdOf(RULE) with its duty pair; for rule 3 that completes the rule; for rules 4..7 the
very next step is the direction-only FORWARD that completes it. -/
def Obligations.TurnThenForwardTail : Prop :=
  ∀ (s : State) (k : RuleNo) (tag : Tag) (d : DutyPair), noResetFor 2 s = true → s.phase = .turn →
    s.rule = some k → cmdOf s.cfg k = some ⟨tag, some d⟩ →
    (k = 3 → ∃ t, runFor 1 s = .next t ∧ t.phase = .start ∧ t.dflag = true ∧ t.dir = enc s.cfg tag ∧
      t.dutyL = d.l ∧ t.dutyR = d.r ∧ t.trace = s.trace ++ [.issue tag (some d)]) ∧
    (4 ≤ k → ∃ t u, runFor 1 s = .next t ∧ runFor 2 s = .next u ∧
      t.phase = .fwdTail ∧ t.dflag = s.dflag ∧ t.dir = enc s.cfg tag ∧ t.dutyL = d.l ∧ t.dutyR = d.r ∧
      t.trace = s.trace ++ [.issue tag (some d)] ∧
      u.phase = .start ∧ u.dflag = true ∧ u.dir = s.cfg.codeForward ∧ u.dutyL = d.l ∧ u.dutyR = d.r ∧
      u.trace = t.trace ++ [.issue .forward none])

/-- The transition table's "enabled when", "event" and "next PHASE" columns, for every step that is not a reset
(derived from rules R92, R95; that a wait is a step with no event is the model's choice, assumption log 8). -/
def Obligations.EveryStepFollowsTheTable : Prop :=
  ∀ s t : State, s.pins.rst = false → step s = .next t →
    t.phase = (if enabled s then tablePhase s else s.phase) ∧
    t.trace = s.trace ++ (if enabled s then (tableEvent s).toList else [])

/-- Rule R27: each register is written only by the steps of the table, with the value the table gives. -/
def Obligations.OnlyTableWritersWrite : Prop :=
  ∀ s t : State, s.pins.rst = false → step s = .next t →
    t.lat = (if smpReq s.phase = true ∧ s.pins.smpValid = true then
        some ⟨s.pins.smpL, s.pins.smpC, s.pins.smpR⟩ else s.lat) ∧
    t.dflag = (match s.phase with
      | .start => false
      | .r1EndHold => s.pins.holdDone || s.dflag
      | .turn => s.rule == some 3#3 || s.dflag
      | .r2Fwd | .fwdTail => true
      | _ => s.dflag) ∧
    t.rule = (if s.phase = .match2 ∧ s.dflag = false then s.pat.map (matchRule · false) else s.rule) ∧
    t.dir = (match s.phase with
      | .r1Back => s.cfg.codeBack
      | .r1Stop | .r2Stop => s.cfg.codeStop
      | .r2Fwd | .fwdTail => s.cfg.codeForward
      | .turn => (((s.rule.bind (cmdOf s.cfg)).map (fun c => enc s.cfg c.tag)).getD s.dir)
      | _ => s.dir) ∧
    (⟨t.dutyL, t.dutyR⟩ : DutyPair) = (match s.phase with
      | .r1Back => s.cfg.dutyBack
      | .turn => (((s.rule.bind (cmdOf s.cfg)).bind Command.duty).getD ⟨s.dutyL, s.dutyR⟩)
      | _ => ⟨s.dutyL, s.dutyR⟩) ∧
    t.phase = (if enabled s then tablePhase s else s.phase)

/-- The outcomes of a step (derived from rule R98; the fault for CmdOf(0) is the model's, log 10, and
that a wait is a next state is its choice too, log 8): a step that is not enabled waits;
no step and no instruction is refused; a fault only where the rules put one. -/
def Obligations.StepOutcomes : Prop :=
  (∀ s : State, s.pins.rst = false → enabled s = false → ∃ t, step s = .next t ∧ s.sameBlock t = true) ∧
  (∀ (s : State) (r : Refusal), step s ≠ .refused r) ∧
  (∀ (s : State) (i : Instr) (r : Refusal), exec i s ≠ .refused r) ∧
  (∀ (s : State) (e : Fault), step s = .fault e →
    (e = .latNoValue ∧ s.lat = none ∧ s.phase ∈ [Phase.match1, .r1Check, .match2]) ∨
    (e = .ruleNoValue ∧ s.rule = none ∧ s.phase = .turn) ∨
    (e = .ruleOneAtMatch2 ∧ s.phase = .match2 ∧ s.dflag = false ∧ s.pat = some 0b111#3) ∨
    (e = .noCommand ∧ s.phase = .turn ∧ s.rule = some 0#3))

/-! ## Invariants that every step keeps -/

/-- Every step keeps the invariant of the phases (derived from rules R28, R92, R94, R95). -/
def Obligations.EveryStepKeepsPhaseInvariant : Prop :=
  ∀ s t : State, phaseInv s = true → step s = .next t → phaseInv t = true

/-- A state that meets the invariant has a next state: no fault and no refusal (derived from rules R98, R103; that a
waiting block, which by rule R98 has no step of its own, has a next state is the model's choice, assumption log 8). -/
def Obligations.InvariantExcludesFaults : Prop :=
  ∀ s : State, phaseInv s = true → ∃ t, step s = .next t

/-- Every step keeps DIR, DUTY_L and DUTY_R equal to the reset values overwritten by every later ISSUE of the
trace that writes them (derived from rule R100). -/
def Obligations.EveryStepKeepsOutputsEqualToTrace : Prop :=
  ∀ s t : State, s.outRegs = outRegsOf s.cfg s.trace → step s = .next t →
    t.outRegs = outRegsOf t.cfg t.trace

/-- In a block with an accepted record a step writes DIR only with a legal code: no reserved code (derived from rules
R20, R50). -/
def Obligations.NoReservedCodeIsWritten : Prop :=
  ∀ s t : State, s.cfg.wf = true → s.pins.rst = false → step s = .next t →
    (t.strobes.dirWe = true → legalDir4 t.dir = true) ∧ (t.strobes.dirWe = false → t.dir = s.dir)

/-- Rules R79 and R121: a duty pair is written only together with a direction code, in one ISSUE step, and a step
that issues a command with a pair writes both. -/
def Obligations.DutyChangesOnlyWithItsCode : Prop :=
  ∀ s t : State, s.pins.rst = false → step s = .next t →
    (t.strobes.dutyWe = true →
      t.strobes.dirWe = true ∧ ∃ tag d, t.trace = s.trace ++ [.issue tag (some d)] ∧
        t.dir = enc s.cfg tag ∧ t.dutyL = d.l ∧ t.dutyR = d.r) ∧
    (∀ tag d, t.trace = s.trace ++ [.issue tag (some d)] →
      t.strobes.dutyWe = true ∧ t.strobes.dirWe = true ∧ t.dir = enc s.cfg tag ∧ t.dutyL = d.l ∧
        t.dutyR = d.r) ∧
    (t.strobes.dutyWe = false → t.dutyL = s.dutyL ∧ t.dutyR = s.dutyR)

/-- Rule R120: no instruction writes the host port's upper nibble, and after every step, a reset included, it is
what the environment wrote or left; the low nibble is DIR. -/
def Obligations.UpperNibbleIsTheEnvironments : Prop :=
  (∀ (i : Instr) (s t : State), exec i s = .next t → t.portHi = s.portHi) ∧
  (∀ s t : State, step s = .next t →
    t.portHi = s.pins.portHi.getD s.portHi ∧ t.hostPort.extractLsb' 4 4 = t.portHi ∧
      t.hostPort.extractLsb' 0 4 = t.dir)

/-- A handshake given in another phase has no effect (derived from rule R106, item 3, and rule R118): outside the
sample phases smp_valid and the triple, and outside the hold phases hold_done, do not matter to the step. -/
def Obligations.HandshakesElsewhereAreIgnored : Prop :=
  ∀ (s : State) (p q : Pins) (rest : List Pins), p.rst = q.rst → p.portHi = q.portHi →
    (smpReq s.phase = true →
      p.smpValid = q.smpValid ∧ p.smpL = q.smpL ∧ p.smpC = q.smpC ∧ p.smpR = q.smpR) →
    (holdReq s.phase = true → p.holdDone = q.holdDone) →
    step { s with inputs := p :: rest } = step { s with inputs := q :: rest }

/-- Rule R23: the status outputs. on_o is PAT, rule_o is Match(PAT, 0) whatever DFLAG is, dflag_o is DFLAG, and
nomatch_o is 1 during exactly the step that emits NOMATCH; on_o and rule_o have no value before a sample. -/
def Obligations.StatusOutputs : Prop :=
  (∀ s : State, s.outputs.onO = s.pat ∧ s.outputs.ruleO = s.pat.map (matchRule · false) ∧
    s.outputs.dflagO = s.dflag) ∧
  (∀ s t : State, s.pins.rst = false → step s = .next t →
    (t.outputs.noMatchO = true ↔ t.trace = s.trace ++ [.noMatch])) ∧
  (∀ s : State, s.lat = none → s.outputs.onO = none ∧ s.outputs.ruleO = none)

/-! ## Whole action lists -/

/-- Rule R68: from P_MATCH1 with all three on line, with the environment's answers as named: back, hold, re-sample
and, if the re-sample is all on line, stop, hold, and the pass ends with DFLAG = 1; if not, the block stands at
P_MATCH2 with DFLAG = 0 and the re-sampled readings. -/
def Obligations.RecoveryRunsItsActionList : Prop :=
  ∀ (s : State) (p0 p1 p2 p3 p4 p5 p6 p7 : Pins) (rest : List Pins),
    s.inputs = p0 :: p1 :: p2 :: p3 :: p4 :: p5 :: p6 :: p7 :: rest → noResetFor 8 s = true →
    s.phase = .match1 → s.dflag = false → s.pat = some 0b111#3 →
    p2.holdDone = true → p3.smpValid = true →
    (classify s.cfg ⟨p3.smpL, p3.smpC, p3.smpR⟩ = 0b111#3 → p6.holdDone = true →
      ∃ t, runFor 8 s = .next t ∧ t.phase = .start ∧ t.dflag = true ∧ t.dir = s.cfg.codeStop ∧
        t.dutyL = s.cfg.dutyBack.l ∧ t.dutyR = s.cfg.dutyBack.r ∧ t.rule = s.rule ∧
        t.lat = some ⟨p3.smpL, p3.smpC, p3.smpR⟩ ∧
        t.trace = s.trace ++ [.issue .back (some s.cfg.dutyBack), .hold s.cfg.tBack,
          .sample p3.smpL p3.smpC p3.smpR, .issue .stop none, .hold s.cfg.tEnd]) ∧
    (classify s.cfg ⟨p3.smpL, p3.smpC, p3.smpR⟩ ≠ 0b111#3 →
      ∃ t, runFor 5 s = .next t ∧ t.phase = .match2 ∧ t.dflag = false ∧ t.dir = s.cfg.codeBack ∧
        t.dutyL = s.cfg.dutyBack.l ∧ t.dutyR = s.cfg.dutyBack.r ∧ t.rule = s.rule ∧
        t.lat = some ⟨p3.smpL, p3.smpC, p3.smpR⟩ ∧
        t.trace = s.trace ++ [.issue .back (some s.cfg.dutyBack), .hold s.cfg.tBack,
          .sample p3.smpL p3.smpC p3.smpR])

/-- Rule R69: when the re-check fails the rules after rule 1 are tried against the re-sampled pattern. -/
def Obligations.FallThroughUsesTheResample : Prop :=
  ∀ (s : State) (q : Pat), noResetFor 2 s = true → phaseInv s = true → s.phase = .r1Check →
    s.pat = some q →
    (q = 0b111#3 → ∃ t, runFor 1 s = .next t ∧ t.phase = .r1Stop) ∧
    (q ≠ 0b111#3 → ∃ t, runFor 2 s = .next t ∧ t.rule = some (matchRule q false) ∧ t.dflag = false ∧
      t.dir = s.cfg.codeBack ∧ t.dutyL = s.cfg.dutyBack.l ∧ t.dutyR = s.cfg.dutyBack.r ∧
      t.phase = (if q = 0b101#3 then .start else if q = 0b000#3 then .r2Stop else .turn) ∧
      t.trace = s.trace ++ (if q = 0b101#3 then [.noMatch] else []))

/-- Rule R70: rule 2 stops, holds T_REACQ and goes forward with the previous duty, with no re-sample. -/
def Obligations.ReacquireRunsItsActionList : Prop :=
  ∀ (s : State) (p0 p1 p2 p3 : Pins) (rest : List Pins),
    s.inputs = p0 :: p1 :: p2 :: p3 :: rest → noResetFor 4 s = true →
    s.phase = .match2 → s.dflag = false → s.pat = some 0b000#3 → p2.holdDone = true →
    ∃ t u, runFor 2 s = .next t ∧ t.dir = s.cfg.codeStop ∧ t.dutyL = s.dutyL ∧ t.dutyR = s.dutyR ∧
      t.dflag = false ∧ runFor 4 s = .next u ∧ u.phase = .start ∧ u.dflag = true ∧ u.rule = some 2 ∧
      u.dir = s.cfg.codeForward ∧ u.dutyL = s.dutyL ∧ u.dutyR = s.dutyR ∧ u.lat = s.lat ∧
      u.trace = s.trace ++ [.issue .stop none, .hold s.cfg.tReacq, .issue .forward none]

/-- Rule R71: rule 3 is a single FORWARD with the pair DUTY_FORWARD. -/
def Obligations.StraightRunsItsActionList : Prop :=
  ∀ s : State, noResetFor 2 s = true → s.phase = .match2 → s.dflag = false → s.pat = some 0b010#3 →
    ∃ t, runFor 2 s = .next t ∧ t.phase = .start ∧ t.dflag = true ∧ t.rule = some 3 ∧
      t.dir = s.cfg.codeForward ∧ t.dutyL = s.cfg.dutyForward.l ∧ t.dutyR = s.cfg.dutyForward.r ∧ t.lat = s.lat ∧
      t.trace = s.trace ++ [.issue .forward (some s.cfg.dutyForward)]

/-- Rules R72 to R75: a turn rule shows its turn code for one step, with its duty pair, and then FORWARD with the
pair unchanged. -/
def Obligations.TurnRulesRunTheirActionLists : Prop :=
  ∀ (s : State) (p : Pat) (k : RuleNo) (tag : Tag) (code : Nibble) (d : DutyPair),
    (p, k, tag, code, d) ∈
      [(0b110#3, 4#3, Tag.softLeft, s.cfg.codeSoftLeft, s.cfg.dutySoftLeft),
        (0b011#3, 5#3, Tag.softRight, s.cfg.codeSoftRight, s.cfg.dutySoftRight),
        (0b001#3, 6#3, Tag.right, s.cfg.codeRight, s.cfg.dutyRight),
        (0b100#3, 7#3, Tag.left, s.cfg.codeLeft, s.cfg.dutyLeft)] →
    noResetFor 3 s = true → s.phase = .match2 → s.dflag = false → s.pat = some p →
    ∃ t u, runFor 2 s = .next t ∧ t.dir = code ∧ t.dutyL = d.l ∧ t.dutyR = d.r ∧ t.dflag = false ∧
      t.trace = s.trace ++ [.issue tag (some d)] ∧
      runFor 3 s = .next u ∧ u.phase = .start ∧ u.dflag = true ∧ u.rule = some k ∧
      u.dir = s.cfg.codeForward ∧ u.dutyL = d.l ∧ u.dutyR = d.r ∧ u.lat = s.lat ∧
      u.trace = s.trace ++ [.issue tag (some d), .issue .forward none]

/-! ## Passes -/

/-- Every complete pass, from any state at P_START and under any environment, emits exactly one of the five event
sequences; an incomplete pass has emitted a prefix of one, and where it does not go on it is in a wait (derived from
rule R101; that a waiting block has a next state, which a run counts as a step, is the model's choice, assumption
log 8). -/
def Obligations.PassEmitsExactlyOneShape : Prop :=
  (∀ (s t : State) (n : Nat), CompletePass n s t →
    ∃ e, t.trace = s.trace ++ e ∧ ∃ k, PassShape s.cfg k e ∧ ∀ j, PassShape s.cfg j e → j = k) ∧
  (∀ (s t : State) (n : Nat), PassUnderWay n s t →
    (∃ e f k, t.trace = s.trace ++ e ∧ PassShape s.cfg k (e ++ f)) ∧
    (t.pins.rst = false → ∃ u, step t = .next u ∧ (u.phase = t.phase →
      smpReq t.phase = true ∧ t.pins.smpValid = false ∨ holdReq t.phase = true ∧ t.pins.holdDone = false)))

/-- Each of the five event sequences is emitted by some pass from every state at P_START (derived from rule
R101). -/
def Obligations.EveryPassShapeOccurs : Prop :=
  ∀ (k : Nat) (e : List Event) (s : State), PassShape s.cfg k e → s.phase = .start →
    ∃ xs n t, CompletePass n { s with inputs := xs } t ∧ t.trace = s.trace ++ e

/-- The step that fires a rule, and no other, sets DFLAG; P_START, and no other, clears it; rule 1's re-check fires
nothing; a rule 3..7 in its turn, and rule 2 when its hold ends, fires in this step or the next (derived from rule
R66). -/
def Obligations.FiringSetsTheFlag : Prop :=
  (∀ s t : State, s.pins.rst = false → step s = .next t →
    t.dflag = if s.phase = .start then false else s.fires || s.dflag) ∧
  (∀ s : State, s.phase = .r1Check → s.fires = false) ∧
  (∀ (s : State) (k : RuleNo), s.phase = .turn → s.rule = some k → 3 ≤ k → noResetFor 2 s = true →
    (k = 3 → FiresAt 0 s) ∧ (k ≠ 3 → FiresAt 1 s)) ∧
  (∀ s : State, s.phase = .r2Hold → s.pins.holdDone = true → noResetFor 2 s = true → FiresAt 1 s)

/-- Rule R67: at most one rule fires in a pass, firing being the completion of an action list (rule R66), whatever
DFLAG is; and one fires exactly in the passes that end with DFLAG = 1. -/
def Obligations.AtMostOneRuleFires : Prop :=
  ∀ (s t : State) (n : Nat), CompletePass n s t →
    (∀ i j, i < n → j < n → FiresAt i s → FiresAt j s → i = j) ∧
    (t.dflag = true ↔ ∃ i, i < n ∧ FiresAt i s)

/-- What a complete pass leaves on the outputs, by the event sequence it emitted: the code, the duty pair, DFLAG,
RULE and the pattern (derived from rules R69 to R76, R101; 95_test_vectors.md section 8, items 4 and 5). -/
def Obligations.OutputsAtTheEndOfAPass : Prop :=
  ∀ (s t : State) (n : Nat), CompletePass n s t →
    ∃ k e, t.trace = s.trace ++ e ∧ PassShape s.cfg k e ∧
      (k = 1 → t.dflag = true ∧ t.dir = s.cfg.codeForward ∧ ∃ p, t.pat = some p ∧ plainPat p = true ∧
        t.rule = some (matchRule p false) ∧ t.duty = dutyAfterRule s.cfg (matchRule p false) s.duty) ∧
      (k = 2 → t.dflag = false ∧ t.dir = s.dir ∧ t.duty = s.duty ∧ t.pat = some 0b101#3 ∧ t.rule = some 0) ∧
      (k = 3 → t.dflag = true ∧ t.dir = s.cfg.codeStop ∧ t.duty = s.cfg.dutyBack ∧ t.pat = some 0b111#3 ∧
        t.rule = s.rule) ∧
      (k = 4 → t.dflag = true ∧ t.dir = s.cfg.codeForward ∧ ∃ p, t.pat = some p ∧ plainPat p = true ∧
        t.rule = some (matchRule p false) ∧ t.duty = dutyAfterRule s.cfg (matchRule p false) s.cfg.dutyBack) ∧
      (k = 5 → t.dflag = false ∧ t.dir = s.cfg.codeBack ∧ t.duty = s.cfg.dutyBack ∧ t.pat = some 0b101#3 ∧
        t.rule = some 0)

/-- With an environment that answers at once a pass is complete within eleven steps (derived from rules R91,
R92). -/
def Obligations.PromptPassEndsWithinElevenSteps : Prop :=
  ∀ s : State, s.phase = .start → 11 ≤ s.inputs.length →
    (∀ p ∈ s.inputs.take 11, p.prompt = true) →
    ∃ n t, n ≤ 11 ∧ CompletePass n s t
end

