-- ==== Sys2Proof/Laws/State.lean ====
section
/-! SUPPORT. One lemma for each field of `State` under each update, true by `rfl`, so that no proof unfolds a
record update. -/

namespace Sys2Proof.Machine

variable (s : State)

@[simp] theorem State.goto_phase (p : Phase) : (s.goto p).phase = p := rfl
@[simp] theorem State.goto_lat (p : Phase) : (s.goto p).lat = s.lat := rfl
@[simp] theorem State.goto_dflag (p : Phase) : (s.goto p).dflag = s.dflag := rfl
@[simp] theorem State.goto_rule (p : Phase) : (s.goto p).rule = s.rule := rfl
@[simp] theorem State.goto_dir (p : Phase) : (s.goto p).dir = s.dir := rfl
@[simp] theorem State.goto_dutyL (p : Phase) : (s.goto p).dutyL = s.dutyL := rfl
@[simp] theorem State.goto_dutyR (p : Phase) : (s.goto p).dutyR = s.dutyR := rfl
@[simp] theorem State.goto_strobes (p : Phase) : (s.goto p).strobes = s.strobes := rfl
@[simp] theorem State.goto_trace (p : Phase) : (s.goto p).trace = s.trace := rfl
@[simp] theorem State.goto_portHi (p : Phase) : (s.goto p).portHi = s.portHi := rfl
@[simp] theorem State.goto_cfg (p : Phase) : (s.goto p).cfg = s.cfg := rfl
@[simp] theorem State.goto_inputs (p : Phase) : (s.goto p).inputs = s.inputs := rfl

@[simp] theorem State.quiet_phase : s.quiet.phase = s.phase := rfl
@[simp] theorem State.quiet_lat : s.quiet.lat = s.lat := rfl
@[simp] theorem State.quiet_dflag : s.quiet.dflag = s.dflag := rfl
@[simp] theorem State.quiet_rule : s.quiet.rule = s.rule := rfl
@[simp] theorem State.quiet_dir : s.quiet.dir = s.dir := rfl
@[simp] theorem State.quiet_dutyL : s.quiet.dutyL = s.dutyL := rfl
@[simp] theorem State.quiet_dutyR : s.quiet.dutyR = s.dutyR := rfl
@[simp] theorem State.quiet_strobes : s.quiet.strobes = Strobes.low := rfl
@[simp] theorem State.quiet_trace : s.quiet.trace = s.trace := rfl
@[simp] theorem State.quiet_portHi : s.quiet.portHi = s.portHi := rfl
@[simp] theorem State.quiet_cfg : s.quiet.cfg = s.cfg := rfl
@[simp] theorem State.quiet_inputs : s.quiet.inputs = s.inputs := rfl

@[simp] theorem State.emit_phase (ev : Event) : (s.emit ev).phase = s.phase := rfl
@[simp] theorem State.emit_lat (ev : Event) : (s.emit ev).lat = s.lat := rfl
@[simp] theorem State.emit_dflag (ev : Event) : (s.emit ev).dflag = s.dflag := rfl
@[simp] theorem State.emit_rule (ev : Event) : (s.emit ev).rule = s.rule := rfl
@[simp] theorem State.emit_dir (ev : Event) : (s.emit ev).dir = s.dir := rfl
@[simp] theorem State.emit_dutyL (ev : Event) : (s.emit ev).dutyL = s.dutyL := rfl
@[simp] theorem State.emit_dutyR (ev : Event) : (s.emit ev).dutyR = s.dutyR := rfl
@[simp] theorem State.emit_strobes (ev : Event) : (s.emit ev).strobes = s.strobes := rfl
@[simp] theorem State.emit_trace (ev : Event) : (s.emit ev).trace = s.trace ++ [ev] := rfl
@[simp] theorem State.emit_portHi (ev : Event) : (s.emit ev).portHi = s.portHi := rfl
@[simp] theorem State.emit_cfg (ev : Event) : (s.emit ev).cfg = s.cfg := rfl
@[simp] theorem State.emit_inputs (ev : Event) : (s.emit ev).inputs = s.inputs := rfl

@[simp] theorem State.setFlag_phase (b : Bool) : (s.setFlag b).phase = s.phase := rfl
@[simp] theorem State.setFlag_lat (b : Bool) : (s.setFlag b).lat = s.lat := rfl
@[simp] theorem State.setFlag_dflag (b : Bool) : (s.setFlag b).dflag = b := rfl
@[simp] theorem State.setFlag_rule (b : Bool) : (s.setFlag b).rule = s.rule := rfl
@[simp] theorem State.setFlag_dir (b : Bool) : (s.setFlag b).dir = s.dir := rfl
@[simp] theorem State.setFlag_dutyL (b : Bool) : (s.setFlag b).dutyL = s.dutyL := rfl
@[simp] theorem State.setFlag_dutyR (b : Bool) : (s.setFlag b).dutyR = s.dutyR := rfl
@[simp] theorem State.setFlag_strobes (b : Bool) : (s.setFlag b).strobes = s.strobes := rfl
@[simp] theorem State.setFlag_trace (b : Bool) : (s.setFlag b).trace = s.trace := rfl
@[simp] theorem State.setFlag_portHi (b : Bool) : (s.setFlag b).portHi = s.portHi := rfl
@[simp] theorem State.setFlag_cfg (b : Bool) : (s.setFlag b).cfg = s.cfg := rfl
@[simp] theorem State.setFlag_inputs (b : Bool) : (s.setFlag b).inputs = s.inputs := rfl

@[simp] theorem State.latch_phase (x : Readings) : (s.latch x).phase = s.phase := rfl
@[simp] theorem State.latch_lat (x : Readings) : (s.latch x).lat = some x := rfl
@[simp] theorem State.latch_dflag (x : Readings) : (s.latch x).dflag = s.dflag := rfl
@[simp] theorem State.latch_rule (x : Readings) : (s.latch x).rule = s.rule := rfl
@[simp] theorem State.latch_dir (x : Readings) : (s.latch x).dir = s.dir := rfl
@[simp] theorem State.latch_dutyL (x : Readings) : (s.latch x).dutyL = s.dutyL := rfl
@[simp] theorem State.latch_dutyR (x : Readings) : (s.latch x).dutyR = s.dutyR := rfl
@[simp] theorem State.latch_strobes (x : Readings) : (s.latch x).strobes = s.strobes := rfl
@[simp] theorem State.latch_trace (x : Readings) : (s.latch x).trace = s.trace := rfl
@[simp] theorem State.latch_portHi (x : Readings) : (s.latch x).portHi = s.portHi := rfl
@[simp] theorem State.latch_cfg (x : Readings) : (s.latch x).cfg = s.cfg := rfl
@[simp] theorem State.latch_inputs (x : Readings) : (s.latch x).inputs = s.inputs := rfl

@[simp] theorem State.setRule_phase (k : RuleNo) : (s.setRule k).phase = s.phase := rfl
@[simp] theorem State.setRule_lat (k : RuleNo) : (s.setRule k).lat = s.lat := rfl
@[simp] theorem State.setRule_dflag (k : RuleNo) : (s.setRule k).dflag = s.dflag := rfl
@[simp] theorem State.setRule_rule (k : RuleNo) : (s.setRule k).rule = some k := rfl
@[simp] theorem State.setRule_dir (k : RuleNo) : (s.setRule k).dir = s.dir := rfl
@[simp] theorem State.setRule_dutyL (k : RuleNo) : (s.setRule k).dutyL = s.dutyL := rfl
@[simp] theorem State.setRule_dutyR (k : RuleNo) : (s.setRule k).dutyR = s.dutyR := rfl
@[simp] theorem State.setRule_strobes (k : RuleNo) : (s.setRule k).strobes = s.strobes := rfl
@[simp] theorem State.setRule_trace (k : RuleNo) : (s.setRule k).trace = s.trace := rfl
@[simp] theorem State.setRule_portHi (k : RuleNo) : (s.setRule k).portHi = s.portHi := rfl
@[simp] theorem State.setRule_cfg (k : RuleNo) : (s.setRule k).cfg = s.cfg := rfl
@[simp] theorem State.setRule_inputs (k : RuleNo) : (s.setRule k).inputs = s.inputs := rfl

@[simp] theorem State.portWrite_phase (code : Nibble) : (s.portWrite code).phase = s.phase := rfl
@[simp] theorem State.portWrite_lat (code : Nibble) : (s.portWrite code).lat = s.lat := rfl
@[simp] theorem State.portWrite_dflag (code : Nibble) : (s.portWrite code).dflag = s.dflag := rfl
@[simp] theorem State.portWrite_rule (code : Nibble) : (s.portWrite code).rule = s.rule := rfl
@[simp] theorem State.portWrite_dir (code : Nibble) : (s.portWrite code).dir = code := rfl
@[simp] theorem State.portWrite_dutyL (code : Nibble) : (s.portWrite code).dutyL = s.dutyL := rfl
@[simp] theorem State.portWrite_dutyR (code : Nibble) : (s.portWrite code).dutyR = s.dutyR := rfl
@[simp] theorem State.portWrite_strobes (code : Nibble) : (s.portWrite code).strobes = s.strobes := rfl
@[simp] theorem State.portWrite_trace (code : Nibble) : (s.portWrite code).trace = s.trace := rfl
@[simp] theorem State.portWrite_portHi (code : Nibble) : (s.portWrite code).portHi = s.portHi := rfl
@[simp] theorem State.portWrite_cfg (code : Nibble) : (s.portWrite code).cfg = s.cfg := rfl
@[simp] theorem State.portWrite_inputs (code : Nibble) : (s.portWrite code).inputs = s.inputs := rfl

@[simp] theorem State.dutyWrite_phase (d : DutyPair) : (s.dutyWrite d).phase = s.phase := rfl
@[simp] theorem State.dutyWrite_lat (d : DutyPair) : (s.dutyWrite d).lat = s.lat := rfl
@[simp] theorem State.dutyWrite_dflag (d : DutyPair) : (s.dutyWrite d).dflag = s.dflag := rfl
@[simp] theorem State.dutyWrite_rule (d : DutyPair) : (s.dutyWrite d).rule = s.rule := rfl
@[simp] theorem State.dutyWrite_dir (d : DutyPair) : (s.dutyWrite d).dir = s.dir := rfl
@[simp] theorem State.dutyWrite_dutyL (d : DutyPair) : (s.dutyWrite d).dutyL = d.l := rfl
@[simp] theorem State.dutyWrite_dutyR (d : DutyPair) : (s.dutyWrite d).dutyR = d.r := rfl
@[simp] theorem State.dutyWrite_strobes (d : DutyPair) : (s.dutyWrite d).strobes = s.strobes := rfl
@[simp] theorem State.dutyWrite_trace (d : DutyPair) : (s.dutyWrite d).trace = s.trace := rfl
@[simp] theorem State.dutyWrite_portHi (d : DutyPair) : (s.dutyWrite d).portHi = s.portHi := rfl
@[simp] theorem State.dutyWrite_cfg (d : DutyPair) : (s.dutyWrite d).cfg = s.cfg := rfl
@[simp] theorem State.dutyWrite_inputs (d : DutyPair) : (s.dutyWrite d).inputs = s.inputs := rfl

@[simp] theorem State.strobe_phase (a b c : Bool) : (s.strobe a b c).phase = s.phase := rfl
@[simp] theorem State.strobe_lat (a b c : Bool) : (s.strobe a b c).lat = s.lat := rfl
@[simp] theorem State.strobe_dflag (a b c : Bool) : (s.strobe a b c).dflag = s.dflag := rfl
@[simp] theorem State.strobe_rule (a b c : Bool) : (s.strobe a b c).rule = s.rule := rfl
@[simp] theorem State.strobe_dir (a b c : Bool) : (s.strobe a b c).dir = s.dir := rfl
@[simp] theorem State.strobe_dutyL (a b c : Bool) : (s.strobe a b c).dutyL = s.dutyL := rfl
@[simp] theorem State.strobe_dutyR (a b c : Bool) : (s.strobe a b c).dutyR = s.dutyR := rfl
@[simp] theorem State.strobe_strobes (a b c : Bool) : (s.strobe a b c).strobes = ⟨a, b, c⟩ := rfl
@[simp] theorem State.strobe_trace (a b c : Bool) : (s.strobe a b c).trace = s.trace := rfl
@[simp] theorem State.strobe_portHi (a b c : Bool) : (s.strobe a b c).portHi = s.portHi := rfl
@[simp] theorem State.strobe_cfg (a b c : Bool) : (s.strobe a b c).cfg = s.cfg := rfl
@[simp] theorem State.strobe_inputs (a b c : Bool) : (s.strobe a b c).inputs = s.inputs := rfl

@[simp] theorem State.tick_phase : s.tick.phase = s.phase := rfl
@[simp] theorem State.tick_lat : s.tick.lat = s.lat := rfl
@[simp] theorem State.tick_dflag : s.tick.dflag = s.dflag := rfl
@[simp] theorem State.tick_rule : s.tick.rule = s.rule := rfl
@[simp] theorem State.tick_dir : s.tick.dir = s.dir := rfl
@[simp] theorem State.tick_dutyL : s.tick.dutyL = s.dutyL := rfl
@[simp] theorem State.tick_dutyR : s.tick.dutyR = s.dutyR := rfl
@[simp] theorem State.tick_strobes : s.tick.strobes = s.strobes := rfl
@[simp] theorem State.tick_trace : s.tick.trace = s.trace := rfl
@[simp] theorem State.tick_portHi : s.tick.portHi = s.pins.portHi.getD s.portHi := rfl
@[simp] theorem State.tick_cfg : s.tick.cfg = s.cfg := rfl
@[simp] theorem State.tick_inputs : s.tick.inputs = s.inputs.tail := rfl

@[simp] theorem State.finish_phase : s.finish.phase = Phase.start := rfl
@[simp] theorem State.finish_lat : s.finish.lat = s.lat := rfl
@[simp] theorem State.finish_dflag : s.finish.dflag = true := rfl
@[simp] theorem State.finish_rule : s.finish.rule = s.rule := rfl
@[simp] theorem State.finish_dir : s.finish.dir = s.dir := rfl
@[simp] theorem State.finish_dutyL : s.finish.dutyL = s.dutyL := rfl
@[simp] theorem State.finish_dutyR : s.finish.dutyR = s.dutyR := rfl
@[simp] theorem State.finish_strobes : s.finish.strobes = s.strobes := rfl
@[simp] theorem State.finish_trace : s.finish.trace = s.trace := rfl
@[simp] theorem State.finish_portHi : s.finish.portHi = s.portHi := rfl
@[simp] theorem State.finish_cfg : s.finish.cfg = s.cfg := rfl
@[simp] theorem State.finish_inputs : s.finish.inputs = s.inputs := rfl

@[simp] theorem State.resetBlock_phase : s.resetBlock.phase = Phase.start := rfl
@[simp] theorem State.resetBlock_lat : s.resetBlock.lat = none := rfl
@[simp] theorem State.resetBlock_dflag : s.resetBlock.dflag = false := rfl
@[simp] theorem State.resetBlock_rule : s.resetBlock.rule = none := rfl
@[simp] theorem State.resetBlock_dir : s.resetBlock.dir = Config.pDirReset := rfl
@[simp] theorem State.resetBlock_dutyL : s.resetBlock.dutyL = Config.pDutyLReset := rfl
@[simp] theorem State.resetBlock_dutyR : s.resetBlock.dutyR = Config.pDutyRReset := rfl
@[simp] theorem State.resetBlock_strobes : s.resetBlock.strobes = Strobes.low := rfl
@[simp] theorem State.resetBlock_trace : s.resetBlock.trace = [] := rfl
@[simp] theorem State.resetBlock_portHi : s.resetBlock.portHi = s.portHi := rfl
@[simp] theorem State.resetBlock_cfg : s.resetBlock.cfg = s.cfg := rfl
@[simp] theorem State.resetBlock_inputs : s.resetBlock.inputs = s.inputs := rfl

/-! ISSUE (rule R78): a duty pair is written when one is carried, the code always. -/

@[simp] theorem State.issue_phase (tag : Tag) (duty : Option DutyPair) :
    (s.issue tag duty).phase = s.phase := by cases duty <;> rfl
@[simp] theorem State.issue_lat (tag : Tag) (duty : Option DutyPair) :
    (s.issue tag duty).lat = s.lat := by cases duty <;> rfl
@[simp] theorem State.issue_dflag (tag : Tag) (duty : Option DutyPair) :
    (s.issue tag duty).dflag = s.dflag := by cases duty <;> rfl
@[simp] theorem State.issue_rule (tag : Tag) (duty : Option DutyPair) :
    (s.issue tag duty).rule = s.rule := by cases duty <;> rfl
@[simp] theorem State.issue_dir (tag : Tag) (duty : Option DutyPair) :
    (s.issue tag duty).dir = enc s.cfg tag := by cases duty <;> rfl
@[simp] theorem State.issue_dutyL (tag : Tag) (duty : Option DutyPair) :
    (s.issue tag duty).dutyL = (duty.map DutyPair.l).getD s.dutyL := by cases duty <;> rfl
@[simp] theorem State.issue_dutyR (tag : Tag) (duty : Option DutyPair) :
    (s.issue tag duty).dutyR = (duty.map DutyPair.r).getD s.dutyR := by cases duty <;> rfl
@[simp] theorem State.issue_strobes (tag : Tag) (duty : Option DutyPair) :
    (s.issue tag duty).strobes = ⟨true, duty.isSome, false⟩ := by cases duty <;> rfl
@[simp] theorem State.issue_trace (tag : Tag) (duty : Option DutyPair) :
    (s.issue tag duty).trace = s.trace ++ [.issue tag duty] := by cases duty <;> rfl
@[simp] theorem State.issue_portHi (tag : Tag) (duty : Option DutyPair) :
    (s.issue tag duty).portHi = s.portHi := by cases duty <;> rfl
@[simp] theorem State.issue_cfg (tag : Tag) (duty : Option DutyPair) :
    (s.issue tag duty).cfg = s.cfg := by cases duty <;> rfl
@[simp] theorem State.issue_inputs (tag : Tag) (duty : Option DutyPair) :
    (s.issue tag duty).inputs = s.inputs := by cases duty <;> rfl

/-! What depends on one field only. -/

theorem State.pat_eq_of_lat {s t : State} (h : s.lat = t.lat) (hc : s.cfg = t.cfg) : s.pat = t.pat := by
  simp [State.pat, h, hc]

theorem State.pins_eq_of_inputs {s t : State} (h : s.inputs = t.inputs) : s.pins = t.pins := by
  simp [State.pins, h]

@[simp] theorem State.goto_pat (p : Phase) : (s.goto p).pat = s.pat := rfl
@[simp] theorem State.goto_pins (p : Phase) : (s.goto p).pins = s.pins := rfl
@[simp] theorem State.quiet_pat : s.quiet.pat = s.pat := rfl
@[simp] theorem State.quiet_pins : s.quiet.pins = s.pins := rfl
@[simp] theorem State.emit_pat (ev : Event) : (s.emit ev).pat = s.pat := rfl
@[simp] theorem State.emit_pins (ev : Event) : (s.emit ev).pins = s.pins := rfl
@[simp] theorem State.setFlag_pat (b : Bool) : (s.setFlag b).pat = s.pat := rfl
@[simp] theorem State.setFlag_pins (b : Bool) : (s.setFlag b).pins = s.pins := rfl
@[simp] theorem State.latch_pins (x : Readings) : (s.latch x).pins = s.pins := rfl
@[simp] theorem State.setRule_pat (k : RuleNo) : (s.setRule k).pat = s.pat := rfl
@[simp] theorem State.setRule_pins (k : RuleNo) : (s.setRule k).pins = s.pins := rfl
@[simp] theorem State.portWrite_pat (code : Nibble) : (s.portWrite code).pat = s.pat := rfl
@[simp] theorem State.portWrite_pins (code : Nibble) : (s.portWrite code).pins = s.pins := rfl
@[simp] theorem State.dutyWrite_pat (d : DutyPair) : (s.dutyWrite d).pat = s.pat := rfl
@[simp] theorem State.dutyWrite_pins (d : DutyPair) : (s.dutyWrite d).pins = s.pins := rfl
@[simp] theorem State.strobe_pat (a b c : Bool) : (s.strobe a b c).pat = s.pat := rfl
@[simp] theorem State.strobe_pins (a b c : Bool) : (s.strobe a b c).pins = s.pins := rfl
@[simp] theorem State.tick_pat : s.tick.pat = s.pat := rfl
@[simp] theorem State.finish_pat : s.finish.pat = s.pat := rfl
@[simp] theorem State.finish_pins : s.finish.pins = s.pins := rfl
@[simp] theorem State.resetBlock_pins : s.resetBlock.pins = s.pins := rfl
@[simp] theorem State.latch_pat (x : Readings) : (s.latch x).pat = some (classify s.cfg x) := rfl
@[simp] theorem State.resetBlock_pat : s.resetBlock.pat = none := rfl
@[simp] theorem State.issue_pat (tag : Tag) (duty : Option DutyPair) :
    (s.issue tag duty).pat = s.pat := by cases duty <;> rfl
@[simp] theorem State.issue_pins (tag : Tag) (duty : Option DutyPair) :
    (s.issue tag duty).pins = s.pins := by cases duty <;> rfl

end Sys2Proof.Machine
end

