-- ==== Sys2Proof/Laws/Ops.lean ====
section
/-! SUPPORT. For each shared operation, once, everything it can answer. -/

namespace Sys2Proof.Machine

variable {s t : State}

/-! `onNext` -/

@[simp] theorem onNext_next (f : State → State) : onNext f (.next s) = .next (f s) := rfl

@[simp] theorem onNext_fault (f : State → State) (r : Fault) : onNext f (.fault r) = .fault r := rfl

@[simp] theorem onNext_refused (f : State → State) (r : Refusal) : onNext f (.refused r) = .refused r := rfl

/-- `onNext` answers a next state only by applying `f` to one. -/
theorem onNext_eq_next {f : State → State} {r : Result} :
    onNext f r = .next t ↔ ∃ u, r = .next u ∧ f u = t := by
  cases r <;> simp

/-- `onNext` adds no fault and hides none. -/
theorem onNext_eq_fault {f : State → State} {r : Result} {e : Fault} :
    onNext f r = .fault e ↔ r = .fault e := by
  cases r <;> simp

/-- `onNext` adds no refusal and hides none. -/
theorem onNext_eq_refused {f : State → State} {r : Result} {e : Refusal} :
    onNext f r = .refused e ↔ r = .refused e := by
  cases r <;> simp

theorem onNext_onNext (f g : State → State) (r : Result) :
    onNext f (onNext g r) = onNext (fun u => f (g u)) r := by
  cases r <;> rfl

/-! The commands and the ISSUE rows (rules R78, R92) -/

/-- Every command is one ISSUE and always completes. -/
theorem runCommand_eq (tag : Tag) (s : State) :
    runCommand tag s = .next (s.issue tag (dutyOf s.cfg tag s.phase)) := by
  cases tag <;> rfl

/-- An ISSUE row issues its command with the duty pair of the phase, then does the row's own writes. -/
theorem issueRow_eq (tag : Tag) (after : State → State) (s : State) :
    issueRow tag after s = .next (after (s.issue tag (dutyOf s.cfg tag s.phase))) := by
  rw [issueRow, runCommand_eq]; rfl

/-- In P_TURN a command's own duty pair is the one the command multiplexer names (rules R65, R80 to R86). -/
theorem dutyOf_turn_eq_cmdOf {g : Config} {k : RuleNo} {c : Command} (h : cmdOf g k = some c) :
    dutyOf g c.tag .turn = c.duty := by
  unfold cmdOf at h
  split at h <;> simp only [reduceCtorEq, Option.some.injEq] at h <;> subst h <;> rfl

/-! The waiting rows (rules R54, R97) -/

/-- A sample row either latches the delivered triple and goes on, or waits. -/
theorem sampleRow_cases {p : Phase} (h : sampleRow p s = .next t) :
    (s.pins.smpValid = true ∧
      t = ((s.quiet.latch ⟨s.pins.smpL, s.pins.smpC, s.pins.smpR⟩).emit
        (.sample s.pins.smpL s.pins.smpC s.pins.smpR)).goto p) ∨
    (s.pins.smpValid = false ∧ t = s.quiet) := by
  unfold sampleRow wait at h
  split at h <;> simp_all

/-- A hold row either emits its HOLD event and does the row's writes, or waits. -/
theorem holdRow_cases {n : Count} {after : State → State} (h : holdRow n after s = .next t) :
    (s.pins.holdDone = true ∧ t = after (s.quiet.emit (.hold n))) ∨
    (s.pins.holdDone = false ∧ t = s.quiet) := by
  unfold holdRow wait at h
  split at h <;> simp_all

/-! The match rows (rules R94, R95) and the turn (rule R96) -/

/-- What P_MATCH2 answers when it answers a next state. -/
theorem match2Row_cases {k : RuleNo} (h : match2Row k s = .next t) :
    (s.dflag = true ∧ t = s.quiet.goto .start) ∨
    (s.dflag = false ∧ k = 0#3 ∧
      t = (((s.setRule k).emit .noMatch).strobe false false true).goto .start) ∨
    (s.dflag = false ∧ k = 2#3 ∧ t = (s.quiet.setRule k).goto .r2Stop) ∨
    (s.dflag = false ∧ 3#3 ≤ k ∧ t = (s.quiet.setRule k).goto .turn) := by
  have hk : ∀ k : RuleNo, k ≠ 0#3 → k ≠ 1#3 → k ≠ 2#3 → 3#3 ≤ k := by decide
  unfold match2Row at h
  split at h
  · simp_all
  · split at h
    · simp at h
    · split at h
      · simp_all
      · split at h <;> simp_all

/-- What P_TURN answers when it answers a next state. -/
theorem turnRow_cases {k : RuleNo} (h : turnRow k s = .next t) :
    ∃ c, cmdOf s.cfg k = some c ∧
      t = (if k = 3#3 then (s.issue c.tag (dutyOf s.cfg c.tag s.phase)).finish
        else (s.issue c.tag (dutyOf s.cfg c.tag s.phase)).goto .fwdTail) := by
  unfold turnRow at h
  split at h
  · simp at h
  · next c hc =>
    rw [issueRow_eq] at h
    exact ⟨c, hc, by simpa using h.symm⟩

/-! The entries (rules R47, R92) -/

/-- A rule number is one of eight. -/
theorem ruleNo_cases (k : RuleNo) :
    k = 0#3 ∨ k = 1#3 ∨ k = 2#3 ∨ k = 3#3 ∨ k = 4#3 ∨ k = 5#3 ∨ k = 6#3 ∨ k = 7#3 := by
  revert k; decide

/-- In a match step, a turn or its tail every entry runs the shared row for its number. -/
theorem exec_entryOf (k : RuleNo)
    (h : s.phase ∈ [Phase.match1, .r1Check, .match2, .turn, .fwdTail]) :
    exec (entryOf k) s = entryStep k s := by
  simp only [List.mem_cons, List.not_mem_nil, or_false] at h
  rcases ruleNo_cases k with rfl | rfl | rfl | rfl | rfl | rfl | rfl | rfl <;>
    rcases h with h | h | h | h | h <;>
    simp [entryOf, exec, execRule1Recover, execRule2Reacquire, execRule3Forward, execRule4SoftLeft,
      execRule5SoftRight, execRule6Right, execRule7Left, execNoMatch, h]

/-- The table's decoding of a pattern is the entry that the rule matcher selects (rules R47, R64). -/
theorem entryOf_matchRule (p : Pat) : entryOf (matchRule p false) = decodePat3 p := by
  revert p; decide

/-! The step (rules R98, R106) -/

/-- A reset step (rule R106). -/
theorem step_of_rst (h : s.pins.rst = true) : step s = .next s.resetBlock.tick := by
  simp [step, h]

/-- A step that runs one of the sequencer's own rows. -/
theorem step_of_row (h : s.pins.rst = false) (hf : fetch s = .ok none) :
    step s = onNext State.tick (sequencerRow s) := by
  simp [step, h, hf]

/-- A step that runs an instruction. -/
theorem step_of_instr {i : Instr} (h : s.pins.rst = false) (hf : fetch s = .ok (some i)) :
    step s = onNext State.tick (exec i s) := by
  simp [step, h, hf]

/-- A step whose fetch faults. -/
theorem step_of_error {f : Fault} (h : s.pins.rst = false) (hf : fetch s = .error f) :
    step s = .fault f := by
  simp [step, h, hf]

/-- Everything a step that answers a next state can be: a reset, a row of the sequencer's own, or the
instruction the phase runs. -/
theorem step_cases (h : step s = .next t) :
    (s.pins.rst = true ∧ t = s.resetBlock.tick) ∨
    (s.pins.rst = false ∧ fetch s = .ok none ∧ ∃ u, sequencerRow s = .next u ∧ t = u.tick) ∨
    (s.pins.rst = false ∧ ∃ i u, fetch s = .ok (some i) ∧ exec i s = .next u ∧ t = u.tick) := by
  cases hr : s.pins.rst with
  | true => rw [step_of_rst hr] at h; left; exact ⟨rfl, by simpa using h.symm⟩
  | false =>
    right
    cases hf : fetch s with
    | error f => rw [step_of_error hr hf] at h; simp at h
    | ok o =>
      cases o with
      | none =>
        rw [step_of_row hr hf, onNext_eq_next] at h
        obtain ⟨u, hu, rfl⟩ := h
        exact .inl ⟨rfl, rfl, u, hu, rfl⟩
      | some i =>
        rw [step_of_instr hr hf, onNext_eq_next] at h
        obtain ⟨u, hu, rfl⟩ := h
        exact .inr ⟨rfl, i, u, rfl, hu, rfl⟩

/-! Runs -/

@[simp] theorem runFor_zero (s : State) : runFor 0 s = .next s := rfl

theorem runFor_succ_of_step {n : Nat} (h : step s = .next t) : runFor (n + 1) s = runFor n t := by
  simp [runFor, h]

/-- A run of `n + 1` steps is one step and a run of `n`. -/
theorem runFor_succ_eq_next {n : Nat} :
    runFor (n + 1) s = .next t ↔ ∃ u, step s = .next u ∧ runFor n u = .next t := by
  simp only [runFor]
  cases step s <;> simp

/-- A run of `n + 1` steps is a run of `n` and one step. -/
theorem runFor_succ_eq_next_last {n : Nat} :
    runFor (n + 1) s = .next t ↔ ∃ u, runFor n s = .next u ∧ step u = .next t := by
  induction n generalizing s with
  | zero =>
    rw [runFor_succ_eq_next]
    constructor
    · rintro ⟨u, hu, ht⟩
      have : u = t := by simpa using ht
      exact ⟨s, rfl, this ▸ hu⟩
    · rintro ⟨u, hu, ht⟩
      have : s = u := by simpa using hu
      exact ⟨t, this ▸ ht, rfl⟩
  | succ n ih =>
    rw [runFor_succ_eq_next]
    constructor
    · rintro ⟨u, hu, ht⟩
      obtain ⟨v, hv, hvt⟩ := ih.mp ht
      exact ⟨v, runFor_succ_eq_next.mpr ⟨u, hu, hv⟩, hvt⟩
    · rintro ⟨v, hv, hvt⟩
      obtain ⟨u, hu, huv⟩ := runFor_succ_eq_next.mp hv
      exact ⟨u, hu, ih.mpr ⟨v, huv, hvt⟩⟩

end Sys2Proof.Machine
end

