-- ==== Sys2Proof/Laws/PerInstr.lean ====
section
/-! SUPPORT. Facts about every instruction as syntax, one lemma for each constructor of `Instr`. -/

namespace Sys2Proof.Laws

/-- The encoding of an instruction is a legal word of its format: any pattern for a rule-table entry, one of the
seven legal codes for a direction command (rules R44, R50). -/
def EncodesLegalWord.Statement (i : Instr) : Prop :=
  i.wf = true ∧
    match encode i with
    | .pat3 _ => True
    | .dir4 c => legalDir4 c = true

theorem EncodesLegalWord.rule1Recover : EncodesLegalWord.Statement .rule1Recover := ⟨rfl, trivial⟩
theorem EncodesLegalWord.rule2Reacquire : EncodesLegalWord.Statement .rule2Reacquire := ⟨rfl, trivial⟩
theorem EncodesLegalWord.rule3Forward : EncodesLegalWord.Statement .rule3Forward := ⟨rfl, trivial⟩
theorem EncodesLegalWord.rule4SoftLeft : EncodesLegalWord.Statement .rule4SoftLeft := ⟨rfl, trivial⟩
theorem EncodesLegalWord.rule5SoftRight : EncodesLegalWord.Statement .rule5SoftRight := ⟨rfl, trivial⟩
theorem EncodesLegalWord.rule6Right : EncodesLegalWord.Statement .rule6Right := ⟨rfl, trivial⟩
theorem EncodesLegalWord.rule7Left : EncodesLegalWord.Statement .rule7Left := ⟨rfl, trivial⟩
theorem EncodesLegalWord.noMatch : EncodesLegalWord.Statement .noMatch := ⟨rfl, trivial⟩
theorem EncodesLegalWord.stop : EncodesLegalWord.Statement .stop := ⟨rfl, rfl⟩
theorem EncodesLegalWord.softRight : EncodesLegalWord.Statement .softRight := ⟨rfl, rfl⟩
theorem EncodesLegalWord.softLeft : EncodesLegalWord.Statement .softLeft := ⟨rfl, rfl⟩
theorem EncodesLegalWord.left : EncodesLegalWord.Statement .left := ⟨rfl, rfl⟩
theorem EncodesLegalWord.forward : EncodesLegalWord.Statement .forward := ⟨rfl, rfl⟩
theorem EncodesLegalWord.back : EncodesLegalWord.Statement .back := ⟨rfl, rfl⟩
theorem EncodesLegalWord.right : EncodesLegalWord.Statement .right := ⟨rfl, rfl⟩

end Sys2Proof.Laws
end

