-- ==== Sys2Proof/Laws/Step.lean ====
section
/-! SUPPORT. What a step that is no reset does in each phase, once for each row of rule R92, and the inversion
law: everything such a step can be. -/

namespace Sys2Proof.Machine

variable {s t : State}

/-- P_START. -/
theorem step_start (h : s.pins.rst = false) (hp : s.phase = .start) :
    step s = .next (((s.quiet.setFlag false).emit .pass).goto .sample).tick := by
  rw [step_of_row h (by simp [fetch, hp])]; simp [sequencerRow, hp, startRow]

/-- P_SAMPLE: the sample row. -/
theorem step_sample (h : s.pins.rst = false) (hp : s.phase = .sample) :
    step s = onNext State.tick (sampleRow .match1 s) := by
  rw [step_of_row h (by simp [fetch, hp])]; simp [sequencerRow, hp]

/-- P_MATCH1. -/
theorem step_match1 (h : s.pins.rst = false) (hp : s.phase = .match1) :
    step s = if s.dflag then .next (s.quiet.goto .match2).tick else match s.pat with
    | none => .fault .latNoValue
    | some p => .next (s.quiet.goto (if p = 0b111#3 then .r1Back else .match2)).tick := by
  have h7 : ∀ p, matchRule p false = 1#3 ↔ p = 0b111#3 := by decide
  cases hd : s.dflag
  · cases hq : s.pat with
    | none => rw [step_of_error h (f := .latNoValue) (by simp [fetch, hp, hd, fetchPat, hq])]; simp
    | some p =>
      rw [step_of_instr h (i := entryOf (matchRule p false)) (by simp [fetch, hp, hd, fetchPat, hq])]
      rw [exec_entryOf _ (by simp [hp])]; simp [entryStep, hp, match1Row, hd]; simp [h7]
  · rw [step_of_row h (by simp [fetch, hp, hd])]; simp [sequencerRow, hp]

/-- P_R1_CHECK. -/
theorem step_r1Check (h : s.pins.rst = false) (hp : s.phase = .r1Check) :
    step s = match s.pat with
    | none => .fault .latNoValue
    | some p => .next (s.quiet.goto (if p = 0b111#3 then .r1Stop else .match2)).tick := by
  have h7 : ∀ p, matchRule p false = 1#3 ↔ p = 0b111#3 := by decide
  cases hq : s.pat with
    | none => rw [step_of_error h (f := .latNoValue) (by simp [fetch, hp, fetchPat, hq])]
    | some p =>
      rw [step_of_instr h (i := entryOf (matchRule p false)) (by simp [fetch, hp, fetchPat, hq])]
      rw [exec_entryOf _ (by simp [hp])]; simp [entryStep, hp, checkRow]; simp [h7]

/-- P_MATCH2. -/
theorem step_match2 (h : s.pins.rst = false) (hp : s.phase = .match2) :
    step s = if s.dflag then .next (s.quiet.goto .start).tick else match s.pat with
    | none => .fault .latNoValue
    | some p => onNext State.tick (match2Row (matchRule p false) s) := by
  cases hd : s.dflag
  · cases hq : s.pat with
    | none => rw [step_of_error h (f := .latNoValue) (by simp [fetch, hp, hd, fetchPat, hq])]; simp
    | some p =>
      rw [step_of_instr h (i := entryOf (matchRule p false)) (by simp [fetch, hp, hd, fetchPat, hq])]
      rw [exec_entryOf _ (by simp [hp])]; simp [entryStep, hp]
  · rw [step_of_row h (by simp [fetch, hp, hd])]; simp [sequencerRow, hp]

/-- P_TURN. -/
theorem step_turn (h : s.pins.rst = false) (hp : s.phase = .turn) :
    step s = match s.rule with
    | none => .fault .ruleNoValue
    | some k => match cmdOf s.cfg k with
      | none => .fault .noCommand
      | some c => .next (if k = 3#3 then (s.issue c.tag c.duty).finish else (s.issue c.tag c.duty).goto .fwdTail).tick := by
  cases hr : s.rule with
  | none => rw [step_of_error h (f := .ruleNoValue) (by simp [fetch, hp, hr])]
  | some k =>
    rw [step_of_instr h (i := entryOf k) (by simp [fetch, hp, hr])]
    rw [exec_entryOf _ (by simp [hp])]; simp only [entryStep, hp, turnRow]
    cases hc : cmdOf s.cfg k with
    | none => simp
    | some c => simp [issueRow_eq, hp, dutyOf_turn_eq_cmdOf hc]

/-- P_FWD_TAIL. -/
theorem step_fwdTail (h : s.pins.rst = false) (hp : s.phase = .fwdTail) :
    step s = .next (s.issue .forward none).finish.tick := by
  cases hr : s.rule with
  | none => rw [step_of_row h (by simp [fetch, hp, hr])]; simp [sequencerRow, hp, tailRow, issueRow_eq, dutyOf]
  | some k =>
    rw [step_of_instr h (i := entryOf k) (by simp [fetch, hp, hr])]
    rw [exec_entryOf _ (by simp [hp])]; simp [entryStep, hp, tailRow, issueRow_eq, dutyOf]

/-- P_R1_BACK. -/
theorem step_r1Back (h : s.pins.rst = false) (hp : s.phase = .r1Back) :
    step s = .next ((s.issue .back (some s.cfg.dutyBack)).goto .r1Hold).tick := by
  rw [step_of_instr h (i := .rule1Recover) (by simp [fetch, hp])]; simp [exec, execRule1Recover, hp, issueRow_eq, dutyOf]

/-- P_R1_HOLD: the hold row. -/
theorem step_r1Hold (h : s.pins.rst = false) (hp : s.phase = .r1Hold) :
    step s = onNext State.tick (holdRow s.cfg.tBack (·.goto .r1Resample) s) := by
  rw [step_of_instr h (i := .rule1Recover) (by simp [fetch, hp])]; simp [exec, execRule1Recover, hp]

/-- P_R1_RESAMPLE: the sample row. -/
theorem step_r1Resample (h : s.pins.rst = false) (hp : s.phase = .r1Resample) :
    step s = onNext State.tick (sampleRow .r1Check s) := by
  rw [step_of_instr h (i := .rule1Recover) (by simp [fetch, hp])]; simp [exec, execRule1Recover, hp]

/-- P_R1_STOP. -/
theorem step_r1Stop (h : s.pins.rst = false) (hp : s.phase = .r1Stop) :
    step s = .next ((s.issue .stop none).goto .r1EndHold).tick := by
  rw [step_of_instr h (i := .rule1Recover) (by simp [fetch, hp])]; simp [exec, execRule1Recover, hp, issueRow_eq, dutyOf]

/-- P_R1_END_HOLD: the hold row. -/
theorem step_r1EndHold (h : s.pins.rst = false) (hp : s.phase = .r1EndHold) :
    step s = onNext State.tick (holdRow s.cfg.tEnd (fun t => (t.setFlag true).goto .match2) s) := by
  rw [step_of_instr h (i := .rule1Recover) (by simp [fetch, hp])]; simp [exec, execRule1Recover, hp]

/-- P_R2_STOP. -/
theorem step_r2Stop (h : s.pins.rst = false) (hp : s.phase = .r2Stop) :
    step s = .next ((s.issue .stop none).goto .r2Hold).tick := by
  rw [step_of_instr h (i := .rule2Reacquire) (by simp [fetch, hp])]; simp [exec, execRule2Reacquire, hp, issueRow_eq, dutyOf]

/-- P_R2_HOLD: the hold row. -/
theorem step_r2Hold (h : s.pins.rst = false) (hp : s.phase = .r2Hold) :
    step s = onNext State.tick (holdRow s.cfg.tReacq (·.goto .r2Fwd) s) := by
  rw [step_of_instr h (i := .rule2Reacquire) (by simp [fetch, hp])]; simp [exec, execRule2Reacquire, hp]

/-- P_R2_FWD. -/
theorem step_r2Fwd (h : s.pins.rst = false) (hp : s.phase = .r2Fwd) :
    step s = .next (s.issue .forward none).finish.tick := by
  rw [step_of_instr h (i := .rule2Reacquire) (by simp [fetch, hp])]; simp [exec, execRule2Reacquire, hp, issueRow_eq, dutyOf]

/-- P_MATCH2, for the entry that PAT selects. -/
theorem match2Row_eq (k) (s) : match2Row k s = if s.dflag then .next (s.quiet.goto .start)
  else if k = 1#3 then .fault .ruleOneAtMatch2
  else if k = 0#3 then
    .next ((((s.setRule k).emit .noMatch).strobe false false true).goto .start)
  else .next ((s.quiet.setRule k).goto (if k = 2#3 then .r2Stop else .turn)) := rfl

/-- The rows of rule R92 as a relation: everything a step that is no reset can do to the block, each with the
guard of its row, the waits included. The environment's move (`State.tick`) comes on top. -/
inductive RowStep (s : State) : State → Prop
  | start (hp : s.phase = .start) :
      RowStep s (((s.quiet.setFlag false).emit .pass).goto .sample)
  | sampled (hp : s.phase = .sample) (hv : s.pins.smpValid = true) :
      RowStep s (((s.quiet.latch ⟨s.pins.smpL, s.pins.smpC, s.pins.smpR⟩).emit
        (.sample s.pins.smpL s.pins.smpC s.pins.smpR)).goto .match1)
  | waitSample (hp : s.phase = .sample ∨ s.phase = .r1Resample) (hv : s.pins.smpValid = false) :
      RowStep s s.quiet
  | waitHold (hp : s.phase = .r1Hold ∨ s.phase = .r1EndHold ∨ s.phase = .r2Hold) (hv : s.pins.holdDone = false) :
      RowStep s s.quiet
  | match1Passed (hp : s.phase = .match1) (hd : s.dflag = true) :
      RowStep s (s.quiet.goto .match2)
  | match1 (hp : s.phase = .match1) (hd : s.dflag = false) (p) (hq : s.pat = some p) :
      RowStep s (s.quiet.goto (if p = 0b111#3 then .r1Back else .match2))
  | back (hp : s.phase = .r1Back) :
      RowStep s ((s.issue .back (some s.cfg.dutyBack)).goto .r1Hold)
  | hold (hp : s.phase = .r1Hold) (hv : s.pins.holdDone = true) :
      RowStep s ((s.quiet.emit (.hold s.cfg.tBack)).goto .r1Resample)
  | resampled (hp : s.phase = .r1Resample) (hv : s.pins.smpValid = true) :
      RowStep s (((s.quiet.latch ⟨s.pins.smpL, s.pins.smpC, s.pins.smpR⟩).emit
        (.sample s.pins.smpL s.pins.smpC s.pins.smpR)).goto .r1Check)
  | check (hp : s.phase = .r1Check) (p) (hq : s.pat = some p) :
      RowStep s (s.quiet.goto (if p = 0b111#3 then .r1Stop else .match2))
  | stop (hp : s.phase = .r1Stop) :
      RowStep s ((s.issue .stop none).goto .r1EndHold)
  | endHold (hp : s.phase = .r1EndHold) (hv : s.pins.holdDone = true) :
      RowStep s (((s.quiet.emit (.hold s.cfg.tEnd)).setFlag true).goto .match2)
  | match2Passed (hp : s.phase = .match2) (hd : s.dflag = true) :
      RowStep s (s.quiet.goto .start)
  | noMatch (hp : s.phase = .match2) (hd : s.dflag = false) (hq : s.pat = some 0b101#3) :
      RowStep s ((((s.setRule 0#3).emit .noMatch).strobe false false true).goto .start)
  | match2Reacquire (hp : s.phase = .match2) (hd : s.dflag = false) (hq : s.pat = some 0#3) :
      RowStep s ((s.quiet.setRule 2#3).goto .r2Stop)
  | match2Turn (hp : s.phase = .match2) (hd : s.dflag = false) (p) (hq : s.pat = some p) (h0 : p ≠ 0#3) (h5 : p ≠ 0b101#3) (h7 : p ≠ 0b111#3) :
      RowStep s ((s.quiet.setRule (matchRule p false)).goto .turn)
  | reacqStop (hp : s.phase = .r2Stop) :
      RowStep s ((s.issue .stop none).goto .r2Hold)
  | reacqHold (hp : s.phase = .r2Hold) (hv : s.pins.holdDone = true) :
      RowStep s ((s.quiet.emit (.hold s.cfg.tReacq)).goto .r2Fwd)
  | reacqForward (hp : s.phase = .r2Fwd) :
      RowStep s (s.issue .forward none).finish
  | straight (hp : s.phase = .turn) (hr : s.rule = some 3#3) :
      RowStep s (s.issue .forward (some s.cfg.dutyForward)).finish
  | turn (hp : s.phase = .turn) (k c) (hr : s.rule = some k) (hk : k ≠ 3#3) (hc : cmdOf s.cfg k = some c) :
      RowStep s ((s.issue c.tag c.duty).goto .fwdTail)
  | tail (hp : s.phase = .fwdTail) :
      RowStep s (s.issue .forward none).finish

/-- The inversion law of `step`: a step that is no reset is one row of rule R92, then the environment's move. -/
theorem row_of_step (h : s.pins.rst = false) (hs : step s = .next t) : ∃ u, RowStep s u ∧ t = u.tick := by
  have hm : ∀ p, (matchRule p false = 1#3 ↔ p = 0b111#3) ∧ (matchRule p false = 0#3 ↔ p = 0b101#3) ∧ (matchRule p false = 2#3 ↔ p = 0#3) := by decide
  cases hp : s.phase
  · rw [step_start h hp] at hs; cases hs; exact ⟨_, .start hp, rfl⟩
  · rw [step_sample h hp, onNext_eq_next] at hs
    obtain ⟨u, hu, rfl⟩ := hs
    rcases sampleRow_cases hu with ⟨hv, rfl⟩ | ⟨hv, rfl⟩
    exacts [⟨_, .sampled hp hv, rfl⟩, ⟨_, .waitSample (.inl hp) hv, rfl⟩]
  · rw [step_match1 h hp] at hs
    split at hs
    · cases hs; exact ⟨_, .match1Passed hp ‹_›, rfl⟩
    · split at hs
      · cases hs
      · cases hs; exact ⟨_, .match1 hp (by simpa using ‹¬ s.dflag = true›) _ ‹_›, rfl⟩
  · rw [step_r1Back h hp] at hs; cases hs; exact ⟨_, .back hp, rfl⟩
  · rw [step_r1Hold h hp, onNext_eq_next] at hs
    obtain ⟨u, hu, rfl⟩ := hs
    rcases holdRow_cases hu with ⟨hv, rfl⟩ | ⟨hv, rfl⟩
    exacts [⟨_, .hold hp hv, rfl⟩, ⟨_, .waitHold (.inl hp) hv, rfl⟩]
  · rw [step_r1Resample h hp, onNext_eq_next] at hs
    obtain ⟨u, hu, rfl⟩ := hs
    rcases sampleRow_cases hu with ⟨hv, rfl⟩ | ⟨hv, rfl⟩
    exacts [⟨_, .resampled hp hv, rfl⟩, ⟨_, .waitSample (.inr hp) hv, rfl⟩]
  · rw [step_r1Check h hp] at hs
    split at hs
    · cases hs
    · cases hs; exact ⟨_, .check hp _ ‹_›, rfl⟩
  · rw [step_r1Stop h hp] at hs; cases hs; exact ⟨_, .stop hp, rfl⟩
  · rw [step_r1EndHold h hp, onNext_eq_next] at hs
    obtain ⟨u, hu, rfl⟩ := hs
    rcases holdRow_cases hu with ⟨hv, rfl⟩ | ⟨hv, rfl⟩
    exacts [⟨_, .endHold hp hv, rfl⟩, ⟨_, .waitHold (.inr (.inl hp)) hv, rfl⟩]
  · rw [step_match2 h hp] at hs
    split at hs
    · cases hs; exact ⟨_, .match2Passed hp ‹_›, rfl⟩
    · have hd : s.dflag = false := by simpa using ‹¬ s.dflag = true›
      split at hs
      · cases hs
      · next p hq =>
        obtain ⟨h1, h0, h2⟩ := hm p
        rw [match2Row_eq, onNext_eq_next] at hs
        obtain ⟨u, hu, rfl⟩ := hs
        simp only [hd, h1, h0, h2] at hu
        simp only [Bool.false_eq_true, if_false] at hu
        by_cases a : p = 7#3
        · simp [a] at hu
        · by_cases b : p = 5#3
          · subst b; simp at hu; rw [← hu]; exact ⟨_, .noMatch hp hd hq, rfl⟩
          · by_cases c : p = 0#3
            · subst c; simp at hu; rw [← hu]; exact ⟨_, .match2Reacquire hp hd hq, rfl⟩
            · simp [a, b, c] at hu; rw [← hu]; exact ⟨_, .match2Turn hp hd p hq c b a, rfl⟩
  · rw [step_r2Stop h hp] at hs; cases hs; exact ⟨_, .reacqStop hp, rfl⟩
  · rw [step_r2Hold h hp, onNext_eq_next] at hs
    obtain ⟨u, hu, rfl⟩ := hs
    rcases holdRow_cases hu with ⟨hv, rfl⟩ | ⟨hv, rfl⟩
    exacts [⟨_, .reacqHold hp hv, rfl⟩, ⟨_, .waitHold (.inr (.inr hp)) hv, rfl⟩]
  · rw [step_r2Fwd h hp] at hs; cases hs; exact ⟨_, .reacqForward hp, rfl⟩
  · rw [step_turn h hp] at hs
    split at hs
    · cases hs
    · next k hr =>
      split at hs
      · cases hs
      · next c hc =>
        by_cases a : k = 3#3
        · subst a; simp at hs; simp [cmdOf] at hc; subst hc; rw [← hs]; exact ⟨_, .straight hp hr, rfl⟩
        · simp [a] at hs; rw [← hs]; exact ⟨_, .turn hp k c hr a hc, rfl⟩
  · rw [step_fwdTail h hp] at hs; cases hs; exact ⟨_, .tail hp, rfl⟩

end Sys2Proof.Machine
end

