-- ==== Sys2Proof/Tests/Slice0.lean ====
section
/-! SUPPORT. The model's own tests. Every expected value is written out from spec/: the encoding tables (rules R44, R47),
the vectors of 95_test_vectors.md, or the rule the docstring names. A `witness_` theorem shows a concrete state, and
concrete operands, that meet the hypotheses of the statement it is named after, clause by clause. -/

namespace Sys2Proof.Tests

open Sys2Proof.Machine

/-! ## Small states -/

/-- The environment delivers a triple (left, center, right), from channels 3, 2 and 1 (rule R8). -/
def triple (l c r : Byte) : Pins := { Pins.idle with smpValid := true, ch3 := l, ch2 := c, ch1 := r }

/-- The environment ends a hold. -/
def held : Pins := { Pins.idle with holdDone := true }

/-- The environment asserts reset. -/
def resetPins : Pins := { Pins.idle with rst := true }

/-- A block at a phase, with the outputs of a BACK and 0xC in the upper nibble, as in 95_test_vectors.md section 5. -/
def at_ (p : Phase) (dflag : Bool := false) (lat : Option Readings := none) (rule : Option RuleNo := none)
    (inputs : List Pins := []) : State where
  phase := p
  lat := lat
  dflag := dflag
  rule := rule
  dir := 0b1001
  dutyL := 100
  dutyR := 100
  strobes := .low
  trace := []
  portHi := 0xC
  cfg := documentConfig
  inputs := inputs

/-- All three channels on line. -/
def allOn : Option Readings := some ⟨5, 5, 5⟩

/-- Whether an outcome is a next state with a property. -/
def nextHas (r : Result) (f : State → Bool) : Bool :=
  match r with
  | .next s => f s
  | _ => false

/-- Whether an outcome is a given fault. -/
def faultIs (r : Result) (e : Fault) : Bool :=
  match r with
  | .fault f => f == e
  | _ => false

/-- An outcome that has a next state with a property has a next state. -/
theorem exists_of_nextHas {r : Result} {f : State → Bool} (h : nextHas r f = true) :
    ∃ t, r = .next t ∧ f t = true := by
  cases r <;> simp_all [nextHas]

/-- A step that emits one given event. -/
def emits (s : State) (e : Event) : Bool := nextHas (step s) (fun t => t.trace == s.trace ++ [e])

theorem exists_of_emits {s : State} {e : Event} (h : emits s e = true) :
    ∃ t, step s = .next t ∧ t.trace = s.trace ++ [e] := by
  obtain ⟨t, ht, h⟩ := exists_of_nextHas h
  exact ⟨t, ht, by simpa using h⟩

/-! ## Well-formedness: each check refuses an ill-formed term -/

/-- The reserved codes of rule R44 are refused, the seven legal ones are not. -/
theorem test_reserved_codes :
    [0x1#4, 0x3#4, 0x7#4, 0x8#4, 0xB#4, 0xC#4, 0xD#4, 0xE#4, 0xF#4].all (fun c => !legalDir4 c) = true ∧
      [0x0#4, 0x2#4, 0x4#4, 0x5#4, 0x6#4, 0x9#4, 0xA#4].all legalDir4 = true := by decide

/-- Entry I1: a record with one other code is refused, whichever code it is. -/
theorem test_other_codes_refused :
    [{ documentConfig with codeStop := 0x1 }, { documentConfig with codeForward := 0x7 }, { documentConfig with codeLeft := 0xA },
      { documentConfig with codeRight := 0x5 }, { documentConfig with codeSoftRight := 0x4 }, { documentConfig with codeSoftLeft := 0x2 },
      { documentConfig with codeBack := 0x6 }].all (fun c => !c.wf && c.accept == .error .notTheListedCodes) = true := by
  decide

/-- Entry I1 fixes the codes only: another threshold is accepted. -/
theorem test_other_threshold_accepted : ({ documentConfig with threshold := 32 } : Config).wf = true := by decide

/-! ## Decoding: each row's word, written from the spec's encoding -/

theorem test_decode_rule1_recover : decode (.pat3 0b111#3) = .ok .rule1Recover := rfl
theorem test_decode_rule2_reacquire : decode (.pat3 0b000#3) = .ok .rule2Reacquire := rfl
theorem test_decode_rule3_forward : decode (.pat3 0b010#3) = .ok .rule3Forward := rfl
theorem test_decode_rule4_soft_left : decode (.pat3 0b110#3) = .ok .rule4SoftLeft := rfl
theorem test_decode_rule5_soft_right : decode (.pat3 0b011#3) = .ok .rule5SoftRight := rfl
theorem test_decode_rule6_right : decode (.pat3 0b001#3) = .ok .rule6Right := rfl
theorem test_decode_rule7_left : decode (.pat3 0b100#3) = .ok .rule7Left := rfl
theorem test_decode_nomatch : decode (.pat3 0b101#3) = .ok .noMatch := rfl
theorem test_decode_stop : decode (.dir4 0b0000#4) = .ok .stop := rfl
theorem test_decode_soft_right : decode (.dir4 0b0010#4) = .ok .softRight := rfl
theorem test_decode_soft_left : decode (.dir4 0b0100#4) = .ok .softLeft := rfl
theorem test_decode_left : decode (.dir4 0b0101#4) = .ok .left := rfl
theorem test_decode_forward : decode (.dir4 0b0110#4) = .ok .forward := rfl
theorem test_decode_back : decode (.dir4 0b1001#4) = .ok .back := rfl
theorem test_decode_right : decode (.dir4 0b1010#4) = .ok .right := rfl
theorem test_decode_reserved : decode (.dir4 0b1111#4) = .error (.reservedDirection 0b1111#4) := rfl

/-- A table word that comes without its format (assumption log 4). -/
theorem test_decode_table_word :
    decodeTableWord 3 0b101 = some .noMatch ∧ decodeTableWord 8 0b110 = some .rule4SoftLeft ∧
      decodeTableWord 8 0b1001 = some .back ∧ decodeTableWord 4 0b0110 = some .forward ∧
      decodeTableWord 8 0b1111 = none := by decide

/-- From reset, a placed word is the next step's instruction. -/
theorem test_placed_word :
    nextHas (step (State.reset.withFetchWord 8 0b111)) (fun t => t.phase == .r1Back) = true ∧
      nextHas (step (State.reset.withFetchWord 8 0b1010)) (fun t => t.dir == 0b1010) = true := by decide

/-- Rule R8: channel 3 is the left sensor, channel 2 the center one, channel 1 the right one. -/
theorem test_channels :
    nextHas (step (at_ .sample false none none
      [{ Pins.idle with smpValid := true, ch1 := 17, ch2 := 200, ch3 := 5 }]))
      (fun t => t.lat == some ⟨5, 200, 17⟩ && t.pat == some 0b100) = true := by decide

/-- Entry I13: another accepted record runs; here a reading of 32 is on line and rule 7 has other duties. -/
theorem test_other_record_runs :
    nextHas (step { at_ .match2 false (some ⟨32, 200, 200⟩) with
      cfg := { documentConfig with threshold := 32 } }) (fun t => t.rule == some 7) = true ∧
    nextHas (step { at_ .turn false none (some 7) with
      cfg := { documentConfig with dutyLeft := ⟨40, 120⟩ } })
      (fun t => t.trace == [.issue .left (some ⟨40, 120⟩)] && t.dutyR == 120) = true := by decide

/-! ## The units -/

/-- 95_test_vectors.md section 2. -/
theorem test_comparator_vectors :
    [0, 1, 15, 16, 17, 31, 32, 48, 128, 144, 255].map (onLine documentConfig) =
      [true, true, true, true, false, false, false, false, false, false, false] := by decide

/-- 95_test_vectors.md section 3. -/
theorem test_classification_vectors :
    [(⟨0, 0, 0⟩ : Readings), ⟨16, 16, 16⟩, ⟨17, 17, 17⟩, ⟨255, 255, 255⟩, ⟨17, 16, 17⟩, ⟨16, 17, 16⟩,
      ⟨5, 200, 17⟩, ⟨200, 200, 0⟩, ⟨0, 0, 200⟩, ⟨200, 0, 0⟩].map (classify documentConfig) =
      [0b111, 0b111, 0b000, 0b000, 0b010, 0b101, 0b100, 0b001, 0b110, 0b011] := by decide

/-- 95_test_vectors.md section 4: Match, for PAT = 0..7. -/
theorem test_matcher_vectors :
    [0, 1, 2, 3, 4, 5, 6, 7].map (fun p => (matchRule p false, matchRule p true)) =
      [(2, 0), (6, 0), (3, 0), (5, 0), (7, 0), (0, 0), (4, 0), (1, 0)] := by decide

/-- 95_test_vectors.md section 6: hold_n in the three hold phases. -/
theorem test_hold_counts :
    (at_ .r1Hold).outputs.holdN = some 0x015E ∧ (at_ .r1EndHold).outputs.holdN = some 0x01F4 ∧
      (at_ .r2Hold).outputs.holdN = some 0x00FA := by decide

/-- Rule R52's examples of the written form, and rule R53's expansion of `back()`. -/
theorem test_written_forms :
    eventText (.sample 5 200 17) = "SAMPLE 5, 200, 17" ∧
      eventText (expandCall documentConfig .back) = "ISSUE BACK, 100, 100" ∧ eventText (expandCall documentConfig .stop) = "ISSUE STOP" ∧
      eventText (.hold 350) = "HOLD 350" := by decide

/-! ## One instruction each: the ISSUE vectors of 95_test_vectors.md section 5 -/

/-- DIR, the duty pair, the host port and the two write strobes after an instruction. -/
def shows (r : Result) (dir : Nibble) (l d : Byte) (port : Byte) (dirWe dutyWe : Bool) : Bool :=
  nextHas r (fun t => t.dir == dir && t.dutyL == l && t.dutyR == d && t.hostPort == port &&
    t.outputs.dirWe == dirWe && t.outputs.dutyWe == dutyWe)

/-- V1 -/
theorem test_back : shows (exec .back (at_ .r1Back)) 0x9 100 100 0xC9 true true = true := by decide
/-- V2 -/
theorem test_stop : shows (exec .stop (at_ .r1Stop)) 0x0 100 100 0xC0 true false = true := by decide
/-- V3, V4 -/
theorem test_forward :
    shows (exec .forward { at_ .r2Fwd with dutyL := 7, dutyR := 9 }) 0x6 7 9 0xC6 true false = true ∧
      shows (exec .forward (at_ .turn)) 0x6 100 100 0xC6 true true = true := by decide
/-- V5 -/
theorem test_soft_left : shows (exec .softLeft (at_ .turn)) 0x4 0 150 0xC4 true true = true := by decide
/-- V7 -/
theorem test_soft_right : shows (exec .softRight (at_ .turn)) 0x2 150 0 0xC2 true true = true := by decide
/-- V8 -/
theorem test_right : shows (exec .right (at_ .turn)) 0xA 130 50 0xCA true true = true := by decide
/-- V9, with the environment's write of 0x3 in the same step (the sentence below the table). -/
theorem test_left :
    shows (step (at_ .turn false (some ⟨10, 200, 200⟩) (some 7) [{ Pins.idle with portHi := some 0x3 }]))
      0x5 50 130 0x35 true true = true := by decide
/-- V10: a reserved reset code is replaced, the duty pair stays. -/
theorem test_stop_replaces_reserved :
    shows (exec .stop { at_ .r2Stop with dir := 0xF, dutyL := 7, dutyR := 9 }) 0x0 7 9 0xC0 true false = true := by
  decide

/-! ## The rule-table entries: one step each (95_test_vectors.md sections 6 and 7) -/

/-- Program B, step 3. -/
theorem test_rule1_recover_starts :
    nextHas (step (at_ .match1 false allOn)) (fun t => t.phase == .r1Back && t.trace == []) = true := by decide
/-- Program B, step 9. -/
theorem test_rule1_recover_ends :
    nextHas (step (at_ .r1EndHold false allOn none [held]))
      (fun t => t.phase == .match2 && t.dflag && t.trace == [.hold 500]) = true := by decide
/-- Program D: rule 2 is selected with the threshold's upper neighbour. -/
theorem test_rule2_reacquire :
    nextHas (step (at_ .match2 false (some ⟨17, 17, 17⟩))) (fun t => t.phase == .r2Stop && t.rule == some 2) =
      true := by decide
/-- Program A, step 5: one ISSUE completes rule 3. -/
theorem test_rule3_forward :
    nextHas (step (at_ .turn false (some ⟨200, 10, 200⟩) (some 3)))
      (fun t => t.phase == .start && t.dflag && t.trace == [.issue .forward (some ⟨100, 100⟩)]) = true := by decide
/-- Program A, step 10. -/
theorem test_rule4_soft_left :
    nextHas (step (at_ .turn false (some ⟨10, 10, 200⟩) (some 4)))
      (fun t => t.phase == .fwdTail && !t.dflag && t.trace == [.issue .softLeft (some ⟨0, 150⟩)]) = true := by
  decide
/-- Program A, step 17. -/
theorem test_rule5_soft_right :
    nextHas (step (at_ .fwdTail false (some ⟨200, 10, 10⟩) (some 5)))
      (fun t => t.phase == .start && t.dflag && t.trace == [.issue .forward none]) = true := by decide
/-- Program C, step 4. -/
theorem test_rule6_right :
    nextHas (step (at_ .match2 false (some ⟨200, 200, 10⟩))) (fun t => t.phase == .turn && t.rule == some 6) =
      true := by decide
/-- Row P5. -/
theorem test_rule7_left :
    nextHas (step (at_ .turn false (some ⟨10, 200, 200⟩) (some 7)))
      (fun t => t.phase == .fwdTail && t.trace == [.issue .left (some ⟨50, 130⟩)]) = true := by decide
/-- Program C, step 14: BACK of the same pass stays on the output. -/
theorem test_nomatch :
    nextHas (step (at_ .match2 false (some ⟨10, 200, 10⟩)))
      (fun t => t.phase == .start && t.rule == some 0 && !t.dflag && t.dir == 0x9 && t.outputs.noMatchO &&
        t.trace == [.noMatch]) = true := by decide
/-- H5 and H6: a handshake in another phase has no effect. -/
theorem test_stray_handshakes :
    nextHas (step (at_ .sample false none none [held])) (fun t => t.sameBlock (at_ .sample)) = true ∧
      nextHas (step (at_ .r2Hold false none none [triple 1 2 3])) (fun t => t.sameBlock (at_ .r2Hold)) = true := by
  decide

/-! ## Witnesses: the hypotheses of each statement can be met -/

theorem witness_ResetOverridesEveryStep :
    (at_ .r1Hold false none none [resetPins]).pins.rst = true ∧
      nextHas (step (at_ .r1Hold false none none [resetPins])) (fun t => !t.pins.rst) = true := ⟨rfl, rfl⟩

theorem witness_ResetValuesAndNoReadBeforeWrite :
    (∀ p ∈ [Phase.r1Check, .match1, .match2],
      (at_ p).pins.rst = false ∧ (at_ p).lat = none ∧
        ((at_ p).phase = .r1Check ∨
          ((at_ p).phase = .match1 ∨ (at_ p).phase = .match2) ∧ (at_ p).dflag = false)) ∧
    (at_ .turn).pins.rst = false ∧ (at_ .turn).rule = none ∧ (at_ .turn).phase = .turn := by decide

theorem witness_ConstantsAreOneRecord :
    documentConfig.wf = true ∧ ({ documentConfig with threshold := 255, tBack := 0 } : Config).wf = true ∧
      ({ documentConfig with codeBack := 0x6 } : Config).wf = false ∧
      (∃ t, exec .back (at_ .r1Back) = .next t) ∧ ∃ t, step (at_ .start true) = .next t :=
  ⟨by decide, by decide, by decide, ⟨_, rfl⟩, _, rfl⟩

theorem witness_EncoderCodes : documentConfig.wf = true := by decide

theorem witness_ComparatorGateForm :
    documentConfig.threshold = 16 ∧ ({ documentConfig with threshold := 15 } : Config).threshold ≠ 16 ∧
      ({ documentConfig with threshold := 17 } : Config).threshold ≠ 16 := by decide

theorem witness_ClassificationMonotone :
    (at_ .start false allOn).lat = (at_ .match2 true allOn).lat ∧
      (at_ .start false allOn).cfg = (at_ .match2 true allOn).cfg ∧
      (15 : Byte) ≤ 16 ∧ onLineAt 16 16 = true := by decide

theorem witness_ComparatorArrayLanes :
    (at_ .match1 false (some ⟨5, 200, 17⟩)).lat = some ⟨5, 200, 17⟩ ∧ (at_ .sample).lat = none := ⟨rfl, rfl⟩

theorem witness_MatcherPriority : (1 : RuleNo) ≠ 0 ∧ (7 : RuleNo) ≠ 0 := by decide

/-- A run from reset that stands at P_TURN. -/
theorem witness_CommandMux :
    ∃ t, runFor 4 (resetWith documentConfig [.idle, triple 10 200 200]) = .next t ∧ t.phase = .turn ∧ t.rule = some 7 :=
  ⟨_, rfl, rfl, rfl⟩

theorem witness_DecodeEncodeAgree :
    Instr.noMatch.wf = true ∧ Instr.back.wf = true ∧ decode (.pat3 0b101#3) = .ok .noMatch ∧
      decode (.dir4 0b1001#4) = .ok .back := ⟨rfl, rfl, rfl, rfl⟩

theorem witness_OpcodeWordsDecode : legalDir4 0b0001#4 = false ∧ legalDir4 0b1111#4 = false := by decide

theorem witness_ForwardInBothForms : (at_ .turn).phase = .turn ∧ (at_ .fwdTail).phase ≠ .turn := by decide

/-- A state and the ISSUE its step emits, for every line of the statement. -/
def issuingStates : List (State × Event) :=
  [(at_ .r1Stop false allOn, .issue .stop none),
    (at_ .r2Stop false (some ⟨20, 20, 20⟩) (some 2), .issue .stop none),
    (at_ .turn false (some ⟨20, 10, 20⟩) (some 3), .issue .forward (some ⟨100, 100⟩)),
    ({ at_ .r2Fwd false (some ⟨20, 20, 20⟩) (some 2) with dir := 0 }, .issue .forward none),
    ({ at_ .fwdTail false (some ⟨10, 20, 20⟩) (some 7) with dir := 5, dutyL := 50, dutyR := 130 },
      .issue .forward none),
    (at_ .turn false (some ⟨10, 20, 20⟩) (some 7), .issue .left (some ⟨50, 130⟩)),
    (at_ .turn false (some ⟨20, 20, 10⟩) (some 6), .issue .right (some ⟨130, 50⟩)),
    (at_ .turn false (some ⟨20, 10, 10⟩) (some 5), .issue .softRight (some ⟨150, 0⟩)),
    (at_ .turn false (some ⟨10, 10, 20⟩) (some 4), .issue .softLeft (some ⟨0, 150⟩)),
    (at_ .r1Back false allOn, .issue .back (some ⟨100, 100⟩))]

theorem witness_CommandsIssuedOnlyWhereUsed :
    ∀ w ∈ issuingStates, phaseInv w.1 = true ∧ w.1.pins.rst = false ∧
      ∃ t, step w.1 = .next t ∧ t.trace = w.1.trace ++ [w.2] := by
  have h : ∀ w ∈ issuingStates, phaseInv w.1 = true ∧ w.1.pins.rst = false ∧ emits w.1 w.2 = true := by decide
  intro w hw
  obtain ⟨h1, h2, h3⟩ := h w hw
  exact ⟨h1, h2, exists_of_emits h3⟩

theorem witness_Rule1RecoverActions :
    ((at_ .match1).phase = .match1 ∧ (at_ .match1).dflag = false) ∧ (at_ .r1Back).phase = .r1Back ∧
      ((at_ .r1Hold false none none [held]).phase = .r1Hold ∧
        (at_ .r1Hold false none none [held]).pins.holdDone = true) ∧
      ((at_ .r1Resample false none none [triple 0 16 3]).phase = .r1Resample ∧
        (at_ .r1Resample false none none [triple 0 16 3]).pins.smpValid = true) ∧
      (at_ .r1Check).phase = .r1Check ∧ (at_ .r1Stop).phase = .r1Stop ∧
      ((at_ .r1EndHold false none none [held]).phase = .r1EndHold ∧
        (at_ .r1EndHold false none none [held]).pins.holdDone = true) := by decide

theorem witness_Rule2ReacquireActions :
    ((at_ .match2).phase = .match2 ∧ (at_ .match2).dflag = false) ∧ (at_ .r2Stop).phase = .r2Stop ∧
      ((at_ .r2Hold false none none [held]).phase = .r2Hold ∧
        (at_ .r2Hold false none none [held]).pins.holdDone = true) ∧
      (at_ .r2Fwd).phase = .r2Fwd := by decide

theorem witness_TurnEntryActions :
    ((at_ .match2).phase = .match2 ∧ (at_ .match2).dflag = false) ∧ (at_ .turn).phase = .turn ∧
      (at_ .fwdTail).phase = .fwdTail ∧
      Instr.rule7Left ∈ [Instr.rule4SoftLeft, .rule5SoftRight, .rule6Right, .rule7Left] := by decide

theorem witness_EntriesPassedOver :
    ((at_ .match2 true).phase = .match2 ∧ (at_ .match2 true).dflag = true) ∧
      ((at_ .match1 true).phase = .match1 ∧ ((at_ .match1 true).dflag = true ∨ (0b111#3 : Pat) ≠ 0b111#3)) ∧
      ((at_ .match1).phase = .match1 ∧ ((at_ .match1).dflag = true ∨ (0b110#3 : Pat) ≠ 0b111#3)) ∧
      ((at_ .r1Check).phase = .r1Check ∧ (0b110#3 : Pat) ≠ 0b111#3) := by decide

theorem witness_NoMatchIsAnObservableNoOp :
    let s := at_ .match2 false (some ⟨16, 17, 16⟩)
    s.phase = .match2 ∧ s.dflag = false ∧ s.pins.rst = false ∧ s.pat = some 0b101#3 ∧
      ∃ t, step s = .next t ∧ t.trace = s.trace ++ [.noMatch] ∧ t.strobes.noMatch = true :=
  ⟨rfl, rfl, rfl, by decide, _, rfl, rfl, rfl⟩

theorem witness_StepRunsMatchedEntry :
    ∀ p ∈ [Phase.r1Check, .match1, .match2],
      let s := at_ p false (some ⟨17, 16, 17⟩)
      s.pins.rst = false ∧ s.pat = some 0b010#3 ∧ Instr.rule3Forward.wf = true ∧
        (s.phase = .r1Check ∨ (s.phase = .match1 ∨ s.phase = .match2) ∧ s.dflag = false) := by decide

theorem witness_StepRunsEntryInProgress :
    (at_ .r1EndHold).pins.rst = false ∧
      (at_ .r1EndHold).phase ∈ [Phase.r1Back, .r1Hold, .r1Resample, .r1Stop, .r1EndHold] ∧
      (at_ .r2Stop).phase ∈ [Phase.r2Stop, .r2Hold, .r2Fwd] ∧
      (∀ k ∈ [3#3, 4#3, 5#3, 6#3, 7#3],
        (at_ .turn false none (some k)).phase = .turn ∧ (at_ .turn false none (some k)).rule = some k) ∧
      (∀ k ∈ [4#3, 5#3, 6#3, 7#3],
        (at_ .fwdTail false none (some k)).phase = .fwdTail ∧
          (at_ .fwdTail false none (some k)).rule = some k) := by decide

theorem witness_StepRunsIssuedCommand :
    (at_ .r1Back).cfg.wf = true ∧
    (∀ w ∈ [(Phase.r1Back, Tag.back), (.r1Stop, .stop), (.r2Stop, .stop), (.r2Fwd, .forward),
        (.fwdTail, .forward)],
      (at_ w.1).pins.rst = false ∧ fetchCommand (at_ w.1) = some w.2) ∧
    (∀ w ∈ [(3#3, Tag.forward), (4#3, .softLeft), (5#3, .softRight), (6#3, .right), (7#3, .left)],
      fetchCommand (at_ .turn false none (some w.1)) = some w.2) := by decide

/-- Every table row's word: the patterns and two direction codes as one byte, the other direction codes as four
bits (assumption log 4). -/
theorem witness_PlacedWordRunsNext :
    (∀ w ∈ [(7, Instr.rule1Recover), (0, .rule2Reacquire), (2, .rule3Forward), (6, .rule4SoftLeft),
        (3, .rule5SoftRight), (1, .rule6Right), (4, .rule7Left), (5, .noMatch), (9, .back), (10, .right)],
      decodeTableWord 8 w.1 = some w.2) ∧
    (∀ w ∈ [(0, Instr.stop), (2, .softRight), (4, .softLeft), (5, .left), (6, .forward)],
      decodeTableWord 4 w.1 = some w.2) ∧
    (at_ .start).cfg.threshold ≠ 255 := by decide

theorem witness_PassStartsByClearingTheFlag :
    (at_ .start true).pins.rst = false ∧ (at_ .start true).phase = .start := by decide

theorem witness_OldReadingsAndRuleNeverMatter :
    (at_ .start true allOn (some 7)).pins.rst = false ∧ (at_ .start true allOn (some 7)).phase = .start := by
  decide

theorem witness_SamplesReadTheirChannels :
    ∀ p ∈ [Phase.sample, .r1Resample],
      let s := at_ p false none none [{ Pins.idle with smpValid := true, ch1 := 1, ch2 := 2, ch3 := 3 }]
      (s.phase = .sample ∨ s.phase = .r1Resample) ∧ s.pins.rst = false ∧ s.pins.smpValid = true := by decide

theorem witness_SampleLatchesOrWaits :
    ∀ p ∈ [Phase.sample, .r1Resample],
      let s := at_ p false none none [triple 0 255 16]
      let w := at_ p false none none [held, Pins.idle]
      (s.phase = .sample ∨ s.phase = .r1Resample) ∧ s.pins.rst = false ∧ s.pins.smpValid = true ∧
        (w.phase = .sample ∨ w.phase = .r1Resample) ∧
        (∀ q ∈ w.inputs.take 2, q.rst = false ∧ q.smpValid = false) := by decide

theorem witness_HoldFreezesTheBlock :
    ∀ p ∈ [(Phase.r1Hold, (350 : Count), Phase.r1Resample), (.r1EndHold, 500, .match2), (.r2Hold, 250, .r2Fwd)],
      let s := at_ p.1 false none none [held]
      let w := at_ p.1 false none none [triple 1 2 3, Pins.idle]
      (s.phase, p.2.1, p.2.2) ∈ [(Phase.r1Hold, (350 : Count), Phase.r1Resample), (.r1EndHold, 500, .match2),
        (.r2Hold, 250, .r2Fwd)] ∧ s.pins.rst = false ∧ s.pins.holdDone = true ∧
        (∀ q ∈ w.inputs.take 2, q.rst = false ∧ q.holdDone = false) := by decide

theorem witness_PendingChangesNothing :
    (∃ t, step (at_ .sample) = .next t) ∧
      (smpReq (at_ .sample).phase = true ∧ (at_ .sample).pins.smpValid = false) ∧
      (∃ t, step (at_ .r2Hold) = .next t) ∧
      (holdReq (at_ .r2Hold).phase = true ∧ (at_ .r2Hold).pins.holdDone = false) ∧
      (∃ t, step (at_ .sample false none none [triple 1 2 3]) = .next t) ∧
      (at_ .sample false none none [triple 1 2 3]).pins.smpValid = true :=
  ⟨⟨_, rfl⟩, by decide, ⟨_, rfl⟩, by decide, ⟨_, rfl⟩, by decide⟩

theorem witness_MatchOneAndRecheck :
    let s := at_ .match1 false (some ⟨16, 16, 16⟩)
    let u := at_ .r1Check false (some ⟨16, 16, 17⟩)
    s.pins.rst = false ∧ s.phase = .match1 ∧ phaseInv s = true ∧ s.dflag = false ∧ s.pat = some 0b111#3 ∧
      u.pins.rst = false ∧ u.phase = .r1Check ∧ u.pat = some 0b110#3 := by decide

theorem witness_MatchTwoSelectsTheRule :
    ((at_ .match2 true).pins.rst = false ∧ (at_ .match2 true).dflag = true) ∧
    (∀ w ∈ [((⟨10, 20, 10⟩ : Readings), (0 : RuleNo)), (⟨10, 10, 10⟩, 1), (⟨20, 20, 20⟩, 2), (⟨20, 10, 20⟩, 3),
        (⟨10, 20, 20⟩, 7)],
      let s := at_ .match2 false (some w.1)
      s.pins.rst = false ∧ s.phase = .match2 ∧ s.dflag = false ∧ s.pat = some (classify documentConfig w.1) ∧
        matchRule (classify documentConfig w.1) false = w.2) ∧
    phaseInv (at_ .match2 false (some ⟨10, 20, 20⟩)) = true := by decide

theorem witness_TurnThenForwardTail :
    ∀ w ∈ [((3 : RuleNo), Tag.forward, (⟨100, 100⟩ : DutyPair)), (4, .softLeft, ⟨0, 150⟩), (7, .left, ⟨50, 130⟩)],
      let s := at_ .turn false none (some w.1)
      noResetFor 2 s = true ∧ s.phase = .turn ∧ s.rule = some w.1 ∧
        cmdOf documentConfig w.1 = some ⟨w.2.1, some w.2.2⟩ := by decide

theorem witness_EveryStepFollowsTheTable :
    (at_ .match1 false allOn).pins.rst = false ∧ ∃ t, step (at_ .match1 false allOn) = .next t :=
  ⟨rfl, _, rfl⟩

theorem witness_OnlyTableWritersWrite :
    (at_ .turn false none (some 5)).pins.rst = false ∧
      ∃ t, step (at_ .turn false none (some 5)) = .next t ∧ t.dutyL = 150 :=
  ⟨rfl, _, rfl, rfl⟩

theorem witness_StepOutcomes :
    ((at_ .sample).pins.rst = false ∧ enabled (at_ .sample) = false) ∧
      step (at_ .match1) = .fault .latNoValue ∧ step (at_ .turn) = .fault .ruleNoValue ∧
      step (at_ .match2 false allOn) = .fault .ruleOneAtMatch2 ∧
      step (at_ .turn false none (some 0)) = .fault .noCommand :=
  ⟨by decide, rfl, rfl, rfl, rfl⟩

theorem witness_EveryStepKeepsPhaseInvariant :
    ∀ s ∈ [at_ .start true, at_ .r1Hold false allOn none [held], at_ .turn false (some ⟨10, 10, 20⟩) (some 4)],
      phaseInv s = true ∧ ∃ t, step s = .next t := by
  have h : ∀ s ∈ [at_ .start true, at_ .r1Hold false allOn none [held],
      at_ .turn false (some ⟨10, 10, 20⟩) (some 4)],
      phaseInv s = true ∧ nextHas (step s) (fun _ => true) = true := by decide
  intro s hs
  obtain ⟨h1, h2⟩ := h s hs
  obtain ⟨t, ht, _⟩ := exists_of_nextHas h2
  exact ⟨h1, t, ht⟩

theorem witness_InvariantExcludesFaults : phaseInv (at_ .match2 false (some ⟨10, 20, 10⟩)) = true := by decide

theorem witness_EveryStepKeepsOutputsEqualToTrace :
    let s := { at_ .r1Stop with trace := [.issue .back (some ⟨100, 100⟩)] }
    s.outRegs = outRegsOf s.cfg s.trace ∧ ∃ t, step s = .next t :=
  ⟨rfl, _, rfl⟩

theorem witness_NoReservedCodeIsWritten :
    (at_ .r1Back).cfg.wf = true ∧ (∃ t, step (at_ .r1Back) = .next t ∧ t.strobes.dirWe = true) ∧
      ∃ t, step { at_ .start with dir := 0xF } = .next t ∧ t.strobes.dirWe = false ∧ t.dir = 0xF :=
  ⟨by decide, ⟨_, rfl, rfl⟩, _, rfl, rfl, rfl⟩

theorem witness_DutyChangesOnlyWithItsCode :
    (∃ t, step (at_ .turn false none (some 6)) = .next t ∧ t.strobes.dutyWe = true ∧
      t.trace = [.issue .right (some ⟨130, 50⟩)]) ∧
      ∃ t, step (at_ .r1Stop) = .next t ∧ t.strobes.dutyWe = false :=
  ⟨⟨_, rfl, rfl, rfl⟩, _, rfl, rfl⟩

theorem witness_UpperNibbleIsTheEnvironments :
    (∃ t, exec .back (at_ .r1Back) = .next t) ∧
      ∃ t, step (at_ .r1Hold false none none [{ resetPins with portHi := some 0x3 }]) = .next t ∧
        t.portHi = 0x3 :=
  ⟨⟨_, rfl⟩, _, rfl, rfl⟩

theorem witness_HandshakesElsewhereAreIgnored :
    let p := Pins.idle
    let q := { triple 1 2 3 with holdDone := true }
    p ≠ q ∧ p.rst = q.rst ∧ p.portHi = q.portHi ∧ smpReq (at_ .r1Back).phase = false ∧
      holdReq (at_ .r1Back).phase = false ∧
      (smpReq (at_ .r1Hold).phase = false ∧ held.holdDone = q.holdDone ∧ held ≠ q) ∧
      (smpReq (at_ .sample).phase = true ∧ triple 1 2 3 ≠ q) := by decide

theorem witness_StatusOutputs :
    (∃ t, (at_ .match2 false (some ⟨10, 20, 10⟩)).pins.rst = false ∧
      step (at_ .match2 false (some ⟨10, 20, 10⟩)) = .next t ∧ t.outputs.noMatchO = true) ∧
    (at_ .sample).lat = none :=
  ⟨⟨_, rfl, rfl, rfl⟩, rfl⟩

/-- The environment of a whole recovery from P_MATCH1, with a given re-sample. -/
def recovery (l c r : Byte) : List Pins :=
  [.idle, .idle, held, triple l c r, .idle, .idle, held, .idle]

theorem witness_RecoveryRunsItsActionList :
    ∀ x ∈ [(⟨0, 16, 3⟩ : Readings), ⟨16, 16, 17⟩],
      let s := at_ .match1 false allOn none (recovery x.l x.c x.r)
      s.inputs = [Pins.idle, .idle, held, triple x.l x.c x.r, .idle, .idle, held, .idle] ∧
        noResetFor 8 s = true ∧ s.phase = .match1 ∧ s.dflag = false ∧ s.pat = some 0b111#3 ∧
        held.holdDone = true ∧ (triple x.l x.c x.r).smpValid = true := by decide

theorem witness_FallThroughUsesTheResample :
    ∀ x ∈ [(⟨5, 5, 5⟩ : Readings), ⟨10, 200, 10⟩, ⟨17, 17, 17⟩, ⟨200, 10, 200⟩],
      let s := at_ .r1Check false (some x)
      noResetFor 2 s = true ∧ phaseInv s = true ∧ s.phase = .r1Check ∧ s.pat = some (classify documentConfig x) := by decide

theorem witness_ReacquireRunsItsActionList :
    let s := at_ .match2 false (some ⟨200, 200, 200⟩) none [.idle, .idle, held, .idle]
    s.inputs = [Pins.idle, .idle, held, .idle] ∧ noResetFor 4 s = true ∧ s.phase = .match2 ∧ s.dflag = false ∧
      s.pat = some 0b000#3 ∧ held.holdDone = true := by decide

theorem witness_StraightRunsItsActionList :
    let s := at_ .match2 false (some ⟨200, 10, 200⟩)
    noResetFor 2 s = true ∧ s.phase = .match2 ∧ s.dflag = false ∧ s.pat = some 0b010#3 := by decide

theorem witness_TurnRulesRunTheirActionLists :
    ∀ w ∈ [((⟨10, 10, 200⟩ : Readings), 0b110#3), (⟨200, 10, 10⟩, 0b011#3), (⟨200, 200, 10⟩, 0b001#3),
        (⟨10, 200, 200⟩, 0b100#3)],
      let s := at_ .match2 false (some w.1)
      noResetFor 3 s = true ∧ s.phase = .match2 ∧ s.dflag = false ∧ s.pat = some w.2 := by decide

/-- No state of the run strictly between its ends is at P_START. -/
def awayFromStart (n : Nat) (s : State) : Bool :=
  (List.range n).all (fun m => m == 0 || nextHas (runFor m s) (fun u => u.phase != .start))

theorem away_of_awayFromStart {n : Nat} {s : State} (h : awayFromStart n s = true) :
    ∀ m u, 0 < m → m < n → runFor m s = .next u → u.phase ≠ .start := by
  intro m u h0 hm hu
  have := List.all_eq_true.mp h m (List.mem_range.mpr hm)
  simp only [hu, nextHas, Bool.or_eq_true, beq_iff_eq, bne_iff_ne] at this
  exact this.resolve_left (by omega)

/-- A pass of rule 3 (Program A, steps 1 to 5). -/
def straightPass : State := at_ .start true none none [.idle, triple 200 10 200]

theorem witness_PassEmitsExactlyOneShape :
    (∃ t, CompletePass 5 straightPass t ∧
      t.trace = [.pass, .sample 200 10 200, .issue .forward (some ⟨100, 100⟩)]) ∧
    ∃ t, PassUnderWay 3 straightPass t ∧ t.pins.rst = false := by
  refine ⟨⟨_, ⟨rfl, by decide, rfl, rfl, rfl, away_of_awayFromStart (by decide)⟩, by decide⟩, _, ⟨rfl, by decide,
    rfl, rfl, ?_⟩, rfl⟩
  intro m u h0 hm
  exact away_of_awayFromStart (n := 4) (by decide) m u h0 (by omega)

/-- Each shape has events of its own. -/
theorem witness_EveryPassShapeOccurs :
    (∃ e, PassShape documentConfig 1 e) ∧ (∃ e, PassShape documentConfig 2 e) ∧ (∃ e, PassShape documentConfig 3 e) ∧ (∃ e, PassShape documentConfig 4 e) ∧
      (∃ e, PassShape documentConfig 5 e) ∧ (at_ .start).phase = .start :=
  ⟨⟨_, .rule ⟨20, 10, 20⟩ (by decide)⟩, ⟨_, .uncovered ⟨10, 20, 10⟩ (by decide)⟩,
    ⟨_, .terminal ⟨1, 2, 3⟩ ⟨4, 5, 6⟩ (by decide) (by decide)⟩,
    ⟨_, .recovered ⟨1, 2, 3⟩ ⟨20, 20, 20⟩ (by decide) (by decide)⟩,
    ⟨_, .recoveredUncovered ⟨1, 2, 3⟩ ⟨10, 20, 10⟩ (by decide) (by decide)⟩, rfl⟩

theorem witness_FiringSetsTheFlag :
    (∃ t, step (at_ .fwdTail) = .next t ∧ (at_ .fwdTail).pins.rst = false) ∧
      (at_ .r1Check).phase = .r1Check ∧
      (∀ k ∈ [(3 : RuleNo), 4, 7],
        let s := at_ .turn false none (some k)
        s.phase = .turn ∧ s.rule = some k ∧ 3 ≤ k ∧ noResetFor 2 s = true) ∧
      (at_ .r2Hold false none none [held]).pins.holdDone = true ∧
      noResetFor 2 (at_ .r2Hold false none none [held]) = true :=
  ⟨⟨_, rfl, rfl⟩, rfl, by decide, rfl, rfl⟩

theorem witness_AtMostOneRuleFires :
    (∃ t, CompletePass 5 straightPass t) ∧ 4 < 5 ∧ FiresAt 4 straightPass :=
  ⟨⟨_, rfl, by decide, rfl, rfl, rfl, away_of_awayFromStart (by decide)⟩, by decide, _, rfl, rfl, rfl⟩

/-- A pass in which a rule fires, and one in which none does (rows P3 and P6). -/
theorem witness_OutputsAtTheEndOfAPass :
    (∃ t, CompletePass 5 straightPass t ∧ t.dflag = true) ∧
      ∃ t, CompletePass 4 (at_ .start true none none [.idle, triple 10 200 10]) t ∧ t.dflag = false :=
  ⟨⟨_, ⟨rfl, by decide, rfl, rfl, rfl, away_of_awayFromStart (by decide)⟩, rfl⟩,
    ⟨_, ⟨rfl, by decide, rfl, rfl, rfl, away_of_awayFromStart (by decide)⟩, rfl⟩⟩

theorem witness_PromptPassEndsWithinElevenSteps :
    let s := at_ .start false none none (List.replicate 11 { triple 5 5 5 with holdDone := true })
    s.phase = .start ∧ 11 ≤ s.inputs.length ∧ (∀ p ∈ s.inputs.take 11, p.prompt = true) := by decide

end Sys2Proof.Tests
end

section
/-! PROOF. What may be configured (entry I1), what every instruction and every step keeps of the configuration
record (rules R6, R58), and why a run from reset has every length (rules R28, R92, R98). -/

namespace Sys2Proof

open Sys2Proof.Machine

/-! ## The configuration record (entry I1) -/

theorem Config.wf_iff (c : Config) : c.wf = true ↔
    c.codeStop = 0b0000 ∧ c.codeForward = 0b0110 ∧ c.codeLeft = 0b0101 ∧ c.codeRight = 0b1010 ∧
      c.codeSoftRight = 0b0010 ∧ c.codeSoftLeft = 0b0100 ∧ c.codeBack = 0b1001 := by
  simp [Config.wf, and_assoc]

theorem Config.accept_of_wf {c : Config} (h : c.wf = true) : c.accept = .ok c := by
  simp [Config.accept, h]

theorem Config.accept_of_not_wf {c : Config} (h : c.wf = false) : c.accept = .error .notTheListedCodes := by
  simp [Config.accept, h]

theorem Config.accept_eq_ok_iff (c : Config) : c.accept = .ok c ↔ c.wf = true := by
  cases h : c.wf with
  | true => simp [accept_of_wf h]
  | false => simp [accept_of_not_wf h]

theorem documentConfig_wf : documentConfig.wf = true := by decide

/-- Settles O15: acceptance is `Config.wf`, which compares the seven codes. -/
theorem otherCodesAreRefused : Obligations.OtherCodesAreRefused := by
  refine ⟨fun c => c.accept_eq_ok_iff.trans c.wf_iff, fun c => ?_, Config.accept_of_wf documentConfig_wf⟩
  cases h : c.wf with
  | true => exact .inl (Config.accept_of_wf h)
  | false => exact .inr (Config.accept_of_not_wf h)

namespace Machine

variable {s t u : State}

theorem build_of_wf {c : Config} (h : c.wf = true) : build c = .ok { State.reset with cfg := c } := by
  simp [build, Config.accept_of_wf h]

theorem build_of_not_wf {c : Config} (h : c.wf = false) : build c = .error .notTheListedCodes := by
  simp [build, Config.accept_of_not_wf h]

/-! ## No row, no instruction and no step writes the configuration record (rules R6, R58) -/

theorem sampleRow_cfg {p : Phase} (h : sampleRow p s = .next t) : t.cfg = s.cfg := by
  rcases sampleRow_cases h with ⟨-, rfl⟩ | ⟨-, rfl⟩ <;> simp

theorem holdRow_cfg {n : Count} {after : State → State}
    (h : holdRow n after s = .next t) (ha : ∀ v, (after v).cfg = v.cfg) : t.cfg = s.cfg := by
  rcases holdRow_cases h with ⟨-, rfl⟩ | ⟨-, rfl⟩ <;> simp [ha]

theorem issueRow_cfg {tag : Tag} {after : State → State}
    (h : issueRow tag after s = .next t) (ha : ∀ v, (after v).cfg = v.cfg) : t.cfg = s.cfg := by
  rw [issueRow_eq] at h
  cases h
  simp [ha]

theorem runCommand_cfg {tag : Tag} (h : runCommand tag s = .next t) : t.cfg = s.cfg := by
  rw [runCommand_eq] at h
  cases h
  simp

theorem match2Row_cfg {k : RuleNo} (h : match2Row k s = .next t) : t.cfg = s.cfg := by
  rcases match2Row_cases h with ⟨-, rfl⟩ | ⟨-, -, rfl⟩ | ⟨-, -, rfl⟩ | ⟨-, -, rfl⟩ <;> simp

theorem turnRow_cfg {k : RuleNo} (h : turnRow k s = .next t) : t.cfg = s.cfg := by
  obtain ⟨c, -, rfl⟩ := turnRow_cases h
  split <;> simp

theorem tailRow_cfg (h : tailRow s = .next t) : t.cfg = s.cfg := issueRow_cfg h State.finish_cfg

theorem entryStep_cfg {k : RuleNo} (h : entryStep k s = .next t) : t.cfg = s.cfg := by
  unfold entryStep at h
  split at h
  · cases h; simp
  · cases h; simp
  · exact match2Row_cfg h
  · exact turnRow_cfg h
  · exact tailRow_cfg h
  · cases h

theorem sequencerRow_cfg (h : sequencerRow s = .next t) : t.cfg = s.cfg := by
  unfold sequencerRow at h
  split at h
  · cases h; simp
  · exact sampleRow_cfg h
  · cases h; simp
  · cases h; simp
  · exact tailRow_cfg h
  · cases h

theorem execRule1Recover_cfg (h : execRule1Recover s = .next t) : t.cfg = s.cfg := by
  unfold execRule1Recover at h
  split at h
  · exact issueRow_cfg h fun _ => rfl
  · exact holdRow_cfg h fun _ => rfl
  · exact sampleRow_cfg h
  · exact issueRow_cfg h fun _ => rfl
  · exact holdRow_cfg h fun _ => rfl
  · exact entryStep_cfg h

theorem execRule2Reacquire_cfg (h : execRule2Reacquire s = .next t) : t.cfg = s.cfg := by
  unfold execRule2Reacquire at h
  split at h
  · exact issueRow_cfg h fun _ => rfl
  · exact holdRow_cfg h fun _ => rfl
  · exact issueRow_cfg h State.finish_cfg
  · exact entryStep_cfg h

/-- Frame: no instruction changes the configuration record. -/
theorem exec_cfg {i : Instr} (h : exec i s = .next t) : t.cfg = s.cfg := by
  cases i with
  | rule1Recover => exact execRule1Recover_cfg h
  | rule2Reacquire => exact execRule2Reacquire_cfg h
  | rule3Forward | rule4SoftLeft | rule5SoftRight | rule6Right | rule7Left | noMatch => exact entryStep_cfg h
  | stop => exact runCommand_cfg (tag := .stop) h
  | softRight => exact runCommand_cfg (tag := .softRight) h
  | softLeft => exact runCommand_cfg (tag := .softLeft) h
  | left => exact runCommand_cfg (tag := .left) h
  | forward => exact runCommand_cfg (tag := .forward) h
  | back => exact runCommand_cfg (tag := .back) h
  | right => exact runCommand_cfg (tag := .right) h

/-- Frame: no step changes the configuration record, a reset step included. -/
theorem step_cfg (h : step s = .next t) : t.cfg = s.cfg := by
  rcases step_cases h with ⟨-, rfl⟩ | ⟨-, -, u, hu, rfl⟩ | ⟨-, i, u, -, hu, rfl⟩
  · simp
  · simpa using sequencerRow_cfg hu
  · simpa using exec_cfg hu

/-! ## Runs -/

/-- What every step keeps, every run keeps. -/
theorem runFor_keeps {P : State → Prop} (hP : ∀ {v w}, P v → step v = .next w → P w) {n : Nat}
    (hs : P s) (h : runFor n s = .next t) : P t := by
  induction n generalizing s with
  | zero => cases h; exact hs
  | succ n ih =>
    obtain ⟨u, hu, ht⟩ := runFor_succ_eq_next.mp h
    exact ih (hP hs hu) ht

/-- What every step keeps, and what lets a step be taken, lets a run have every length. -/
theorem exists_runFor_of_progress {P : State → Prop} (hP : ∀ {v w}, P v → step v = .next w → P w)
    (hgo : ∀ {v}, P v → ∃ w, step v = .next w) (n : Nat) (hs : P s) : ∃ t, runFor n s = .next t := by
  induction n generalizing s with
  | zero => exact ⟨s, rfl⟩
  | succ n ih =>
    obtain ⟨u, hu⟩ := hgo hs
    obtain ⟨t, ht⟩ := ih (hP hs hu)
    exact ⟨t, runFor_succ_eq_next.mpr ⟨u, hu, ht⟩⟩

theorem runFor_cfg {n : Nat} (h : runFor n s = .next t) : t.cfg = s.cfg :=
  runFor_keeps (P := fun v => v.cfg = s.cfg) (fun hv hw => (step_cfg hw).trans hv) rfl h

/-! ## The phase invariant: kept by every row, and enough for a next state (rules R28, R92, R98) -/

@[simp] theorem phaseInv_tick : phaseInv s.tick = phaseInv s := rfl

@[simp] theorem phaseInv_quiet : phaseInv s.quiet = phaseInv s := rfl

theorem phaseInv_of_start (hp : s.phase = .start) : phaseInv s = true := by
  simp [phaseInv, hp]

/-- PAT has a value when LAT has one (rule R59). -/
theorem exists_pat_of_lat (h : s.lat.isSome = true) : ∃ p, s.pat = some p := by
  obtain ⟨x, hx⟩ := Option.isSome_iff_exists.mp h
  exact ⟨classify s.cfg x, by simp [State.pat, hx]⟩

/-- In P_MATCH1 and P_R1_CHECK the pattern that is tested has a value. -/
theorem pat_of_phaseInv (hi : phaseInv s = true) (hp : s.phase = .match1 ∨ s.phase = .r1Check) :
    ∃ p, s.pat = some p := by
  refine exists_pat_of_lat ?_
  rcases hp with hp | hp <;> simp_all [phaseInv]

/-- P_MATCH2 with DFLAG = 0 has a pattern, and it is not all on line. -/
theorem pat_of_phaseInv_match2 (hi : phaseInv s = true) (hp : s.phase = .match2) (hd : s.dflag = false) :
    ∃ p, s.pat = some p ∧ p ≠ 0b111#3 := by
  obtain ⟨hl, hn⟩ : s.lat.isSome = true ∧ s.pat ≠ some 0b111#3 := by simpa [phaseInv, hp, hd] using hi
  obtain ⟨p, hq⟩ := exists_pat_of_lat hl
  exact ⟨p, hq, fun h7 => hn (h7 ▸ hq)⟩

/-- In P_TURN the rule is one of 3 to 7. -/
theorem rule_of_phaseInv_turn (hi : phaseInv s = true) (hp : s.phase = .turn) :
    ∃ k, s.rule = some k ∧ 3#3 ≤ k := by
  simp only [phaseInv, hp, Bool.and_eq_true] at hi
  obtain ⟨-, h3⟩ := hi
  simpa [Option.any_eq_true] using h3

/-- Outside 0b000, 0b101 and 0b111 the matcher selects one of the rules 3 to 7 (rule R64). -/
theorem three_le_matchRule {p : Pat} (h0 : p ≠ 0#3) (h5 : p ≠ 0b101#3) (h7 : p ≠ 0b111#3) :
    3#3 ≤ matchRule p false := by
  revert p; decide

/-- Only 0b111 selects rule 1 (rule R64). -/
theorem matchRule_ne_one {p : Pat} (h7 : p ≠ 0b111#3) : matchRule p false ≠ 1#3 := by
  revert p; decide

/-- Each of the rules 3 to 7 has a command, and it carries a duty pair (rule R65). -/
theorem cmdOf_of_three_le (g : Config) {k : RuleNo} (hk : 3#3 ≤ k) :
    ∃ tag d, cmdOf g k = some ⟨tag, some d⟩ := by
  rcases ruleNo_cases k with rfl | rfl | rfl | rfl | rfl | rfl | rfl | rfl
  iterate 3 exact absurd hk (by decide)
  all_goals exact ⟨_, _, rfl⟩

/-- Every row of rule R92 keeps the phase invariant. -/
theorem RowStep.keeps_phaseInv (h : RowStep s u) (hi : phaseInv s = true) : phaseInv u = true := by
  cases h with
  | waitSample | waitHold => rwa [phaseInv_quiet]
  | match2Passed | noMatch | reacqForward | straight | tail => exact phaseInv_of_start rfl
  | start | sampled | hold | resampled | endHold | match2Reacquire | reacqHold =>
    simp_all [phaseInv, State.drives]
  | match1Passed hp hd =>
    have hd' : s.dflag = false := by simp_all [phaseInv]
    simp [hd] at hd'
  | match1 hp hd p hq | check hp p hq =>
    by_cases h7 : p = 0b111#3 <;> simp_all [phaseInv, State.drives]
  | back | stop | reacqStop => simp_all [phaseInv, State.drives, enc]
  | match2Turn hp hd p hq h0 h5 h7 =>
    have hk := three_le_matchRule h0 h5 h7
    simp_all [phaseInv]
  | turn hp k c hr hk hc =>
    have h34 : ∀ j : RuleNo, 3#3 ≤ j → j ≠ 3#3 → 4#3 ≤ j := by decide
    have h3 : 3#3 ≤ k := by simpa [hr] using rule_of_phaseInv_turn hi hp
    have h4 : 4#3 ≤ k := h34 k h3 hk
    obtain ⟨tag, d, hd⟩ := cmdOf_of_three_le s.cfg h3
    obtain rfl : c = ⟨tag, some d⟩ := by simpa [hc] using hd
    simp_all [phaseInv]

/-- Every step keeps the phase invariant, a reset step included. -/
theorem step_keeps_phaseInv (hi : phaseInv s = true) (h : step s = .next t) : phaseInv t = true := by
  cases hr : s.pins.rst with
  | true =>
    rw [step_of_rst hr] at h
    cases h
    exact phaseInv_of_start rfl
  | false =>
    obtain ⟨u, hu, rfl⟩ := row_of_step hr h
    rw [phaseInv_tick]
    exact hu.keeps_phaseInv hi

/-! ## Rows that always answer a next state -/

theorem sampleRow_of_valid (p : Phase) (hv : s.pins.smpValid = true) :
    sampleRow p s = .next (((s.quiet.latch ⟨s.pins.smpL, s.pins.smpC, s.pins.smpR⟩).emit
      (.sample s.pins.smpL s.pins.smpC s.pins.smpR)).goto p) := by
  simp [sampleRow, hv]

theorem exists_sampleRow (p : Phase) (s : State) : ∃ t, sampleRow p s = .next t := by
  unfold sampleRow
  split <;> exact ⟨_, rfl⟩

theorem exists_holdRow (n : Count) (after : State → State) (s : State) : ∃ t, holdRow n after s = .next t := by
  unfold holdRow
  split <;> exact ⟨_, rfl⟩

theorem exists_match2Row {k : RuleNo} (hk : k ≠ 1#3) (s : State) : ∃ t, match2Row k s = .next t := by
  rw [match2Row_eq, if_neg hk]
  split_ifs <;> exact ⟨_, rfl⟩

theorem exists_onNext {r : Result} (f : State → State) (h : ∃ t, r = .next t) : ∃ t, onNext f r = .next t := by
  obtain ⟨t, rfl⟩ := h
  exact ⟨f t, rfl⟩

/-- Under the phase invariant a step answers a next state: LAT and RULE have a value where they are read, and
P_MATCH2 does not meet rule 1 (rules R28, R95, R98). -/
theorem exists_step_of_phaseInv (hi : phaseInv s = true) : ∃ t, step s = .next t := by
  cases hr : s.pins.rst with
  | true => exact ⟨_, step_of_rst hr⟩
  | false =>
    cases hp : s.phase with
    | start => exact ⟨_, step_start hr hp⟩
    | sample => rw [step_sample hr hp]; exact exists_onNext _ (exists_sampleRow _ s)
    | match1 =>
      obtain ⟨p, hq⟩ := pat_of_phaseInv hi (.inl hp)
      rw [step_match1 hr hp, hq]
      split <;> exact ⟨_, rfl⟩
    | r1Back => exact ⟨_, step_r1Back hr hp⟩
    | r1Hold => rw [step_r1Hold hr hp]; exact exists_onNext _ (exists_holdRow _ _ s)
    | r1Resample => rw [step_r1Resample hr hp]; exact exists_onNext _ (exists_sampleRow _ s)
    | r1Check =>
      obtain ⟨p, hq⟩ := pat_of_phaseInv hi (.inr hp)
      rw [step_r1Check hr hp, hq]
      exact ⟨_, rfl⟩
    | r1Stop => exact ⟨_, step_r1Stop hr hp⟩
    | r1EndHold => rw [step_r1EndHold hr hp]; exact exists_onNext _ (exists_holdRow _ _ s)
    | match2 =>
      rw [step_match2 hr hp]
      cases hd : s.dflag with
      | true => exact ⟨_, rfl⟩
      | false =>
        obtain ⟨p, hq, h7⟩ := pat_of_phaseInv_match2 hi hp hd
        rw [hq]
        exact exists_onNext _ (exists_match2Row (matchRule_ne_one h7) s)
    | r2Stop => exact ⟨_, step_r2Stop hr hp⟩
    | r2Hold => rw [step_r2Hold hr hp]; exact exists_onNext _ (exists_holdRow _ _ s)
    | r2Fwd => exact ⟨_, step_r2Fwd hr hp⟩
    | turn =>
      obtain ⟨k, hk, h3⟩ := rule_of_phaseInv_turn hi hp
      obtain ⟨tag, d, hc⟩ := cmdOf_of_three_le s.cfg h3
      rw [step_turn hr hp, hk]
      simp only [hc]
      exact ⟨_, rfl⟩
    | fwdTail => exact ⟨_, step_fwdTail hr hp⟩

/-- From a state that meets the phase invariant a run has every length. -/
theorem exists_runFor_of_phaseInv (n : Nat) (hi : phaseInv s = true) : ∃ t, runFor n s = .next t :=
  exists_runFor_of_progress (P := fun v => phaseInv v = true) step_keeps_phaseInv exists_step_of_phaseInv n hi

end Machine

/-- Settles O4: every answer keeps the record, and a run from reset goes on by the phase invariant. -/
theorem constantsAreOneRecord : Obligations.ConstantsAreOneRecord := by
  refine ⟨rfl, build_of_wf documentConfig_wf, fun c => build_of_wf, fun c => build_of_not_wf,
    fun i s t => exec_cfg, fun s t => step_cfg, fun c xs n => ?_⟩
  obtain ⟨t, ht⟩ := exists_runFor_of_phaseInv (s := resetWith c xs) n (phaseInv_of_start rfl)
  exact ⟨t, ht, runFor_cfg ht⟩

/-- Settles O32: both sample phases run the sample row, and a delivery latches channels 3, 2 and 1 in this order. -/
theorem samplesReadTheirChannels : Obligations.SamplesReadTheirChannels := by
  rintro s (hp | hp) hr hv
  · rw [step_sample hr hp, sampleRow_of_valid _ hv]
    exact ⟨_, rfl, rfl, rfl⟩
  · rw [step_r1Resample hr hp, sampleRow_of_valid _ hv]
    exact ⟨_, rfl, rfl, rfl⟩

end Sys2Proof
end

section
/-! PROOF. The state: its reset values, which row of rule R92 writes which register (rule R27), what a pending
sample or hold leaves alone (rule R26), and what a step shows at the output registers, the strobes and the trace
(rules R20, R23, R78). Each fact is proved once of the rows, by the inversion law of the step. -/

namespace Sys2Proof

open Sys2Proof.Machine

namespace Machine

variable {s t u : State}

/-! ## Reading before the first write (rules R28, R98) -/

theorem pat_of_lat_none (h : s.lat = none) : s.pat = none := by simp [State.pat, h]

/-- A phase that reads PAT faults while LAT holds no value. -/
theorem step_of_lat_none (hr : s.pins.rst = false) (hl : s.lat = none)
    (hp : s.phase = .r1Check ∨ ((s.phase = .match1 ∨ s.phase = .match2) ∧ s.dflag = false)) :
    step s = .fault .latNoValue := by
  have hq := pat_of_lat_none hl
  rcases hp with hp | ⟨hp | hp, hd⟩
  · rw [step_r1Check hr hp, hq]
  · rw [step_match1 hr hp, hq]; simp [hd]
  · rw [step_match2 hr hp, hq]; simp [hd]

/-- P_TURN faults while RULE holds no value. -/
theorem step_of_rule_none (hr : s.pins.rst = false) (hk : s.rule = none) (hp : s.phase = .turn) :
    step s = .fault .ruleNoValue := by
  rw [step_turn hr hp, hk]

/-! ## Waiting (rules R26, R92) -/

/-- The "enabled when" column of rule R92 fails exactly while a sample is pending or a hold is in progress. -/
theorem enabled_eq_false_iff : enabled s = false ↔
    smpReq s.phase = true ∧ s.pins.smpValid = false ∨ holdReq s.phase = true ∧ s.pins.holdDone = false := by
  cases hp : s.phase <;> simp [enabled, hp, smpReq, holdReq]

/-- A row that is not enabled only lowers the strobes. -/
theorem RowStep.eq_quiet_of_not_enabled (h : RowStep s u) (he : enabled s = false) : u = s.quiet := by
  cases h with
  | waitSample | waitHold => rfl
  | start | sampled | match1Passed | match1 | back | hold | resampled | check | stop | endHold | match2Passed
  | noMatch | match2Reacquire | match2Turn | reacqStop | reacqHold | reacqForward | straight | turn | tail =>
    simp_all [enabled, smpReq, holdReq]

/-- No row of rule R92 names its own phase as the next one. -/
theorem tablePhase_ne (s : State) : tablePhase s ≠ s.phase := by
  cases hp : s.phase with
  | match1 | r1Check | match2 | turn => simp only [tablePhase, hp]; split_ifs <;> decide
  | start | sample | r1Back | r1Hold | r1Resample | r1Stop | r1EndHold | r2Stop | r2Hold | r2Fwd | fwdTail =>
    simp [tablePhase, hp]

/-- A wait leaves the block as it is; only the strobes and the environment's part may differ. -/
theorem sameBlock_quiet_tick (s : State) : s.sameBlock s.quiet.tick = true := by simp [State.sameBlock]

/-! ## Which row writes which register (rule R27) -/

/-- PHASE: the next phase of the table, or the same one while the block waits. -/
theorem RowStep.phase_eq (h : RowStep s u) : u.phase = if enabled s then tablePhase s else s.phase := by
  cases h with
  | waitSample hp hv => rcases hp with hp | hp <;> simp [enabled, smpReq, hp, hv]
  | waitHold hp hv => rcases hp with hp | hp | hp <;> simp [enabled, smpReq, holdReq, hp, hv]
  | sampled hp hv | resampled hp hv => simp [enabled, smpReq, tablePhase, hp, hv]
  | hold hp hv | endHold hp hv | reacqHold hp hv => simp [enabled, smpReq, holdReq, tablePhase, hp, hv]
  | match1Passed hp hd | match2Passed hp hd => simp [enabled, smpReq, holdReq, tablePhase, hp, hd]
  | match1 hp hd p hq => simp [enabled, smpReq, holdReq, tablePhase, hp, hd, hq]
  | check hp p hq => simp [enabled, smpReq, holdReq, tablePhase, hp, hq]
  | noMatch hp hd hq | match2Reacquire hp hd hq => simp [enabled, smpReq, holdReq, tablePhase, hp, hd, hq]
  | match2Turn hp hd p hq h0 h5 => simp [enabled, smpReq, holdReq, tablePhase, hp, hd, hq, h0, h5]
  | straight hp hr => simp [enabled, smpReq, holdReq, tablePhase, hp, hr]
  | turn hp k c hr hk => simp [enabled, smpReq, holdReq, tablePhase, hp, hr, hk]
  | start hp | back hp | stop hp | reacqStop hp | reacqForward hp | tail hp =>
    simp [enabled, smpReq, holdReq, tablePhase, hp]

/-- LAT: written by the two sample phases, when a triple is delivered. -/
theorem RowStep.lat_eq (h : RowStep s u) :
    u.lat = if smpReq s.phase = true ∧ s.pins.smpValid = true then
      some ⟨s.pins.smpL, s.pins.smpC, s.pins.smpR⟩ else s.lat := by
  cases h with
  | sampled hp hv | resampled hp hv => simp [smpReq, hp, hv]
  | waitSample hp hv => simp [hv]
  | waitHold hp => rcases hp with hp | hp | hp <;> simp [smpReq, hp]
  | start | match1Passed | match1 | back | hold | check | stop | endHold | match2Passed | noMatch
  | match2Reacquire | match2Turn | reacqStop | reacqHold | reacqForward | straight | turn | tail =>
    simp_all [smpReq]

/-- DFLAG: cleared by P_START and set by the last action of a rule. -/
theorem RowStep.dflag_eq (h : RowStep s u) :
    u.dflag = match s.phase with
      | .start => false
      | .r1EndHold => s.pins.holdDone || s.dflag
      | .turn => s.rule == some 3#3 || s.dflag
      | .r2Fwd | .fwdTail => true
      | _ => s.dflag := by
  cases h with
  | waitSample hp hv => rcases hp with hp | hp <;> simp [hp]
  | waitHold hp hv => rcases hp with hp | hp | hp <;> simp [hp, hv]
  | endHold hp hv => simp [hp, hv]
  | straight hp hr => simp [hp, hr]
  | turn hp k c hr hk => simp [hp, hr, hk]
  | start hp | reacqForward hp | tail hp => simp [hp]
  | sampled | match1Passed | match1 | back | hold | resampled | check | stop | match2Passed | noMatch
  | match2Reacquire | match2Turn | reacqStop | reacqHold => simp_all

/-- RULE: written by P_MATCH2 with DFLAG = 0, with the rule that PAT selects. -/
theorem RowStep.rule_eq (h : RowStep s u) :
    u.rule = if s.phase = .match2 ∧ s.dflag = false then s.pat.map (matchRule · false) else s.rule := by
  cases h with
  | noMatch hp hd hq | match2Reacquire hp hd hq => rw [if_pos ⟨hp, hd⟩, hq]; rfl
  | match2Turn hp hd p hq => simp [hp, hd, hq]
  | match2Passed hp hd => simp [hd]
  | waitSample hp => rcases hp with hp | hp <;> simp [hp]
  | waitHold hp => rcases hp with hp | hp | hp <;> simp [hp]
  | start | sampled | match1Passed | match1 | back | hold | resampled | check | stop | endHold | reacqStop
  | reacqHold | reacqForward | straight | turn | tail => simp_all

/-- DIR: written by the ISSUE phases, with the code of the phase's command. -/
theorem RowStep.dir_eq (h : RowStep s u) :
    u.dir = match s.phase with
      | .r1Back => s.cfg.codeBack
      | .r1Stop | .r2Stop => s.cfg.codeStop
      | .r2Fwd | .fwdTail => s.cfg.codeForward
      | .turn => ((s.rule.bind (cmdOf s.cfg)).map (fun c => enc s.cfg c.tag)).getD s.dir
      | _ => s.dir := by
  cases h with
  | back hp | stop hp | reacqStop hp | reacqForward hp | tail hp => simp [hp, enc]
  | straight hp hr => simp [hp, hr, cmdOf]
  | turn hp k c hr hk hc => simp [hp, hr, hc]
  | waitSample hp => rcases hp with hp | hp <;> simp [hp]
  | waitHold hp => rcases hp with hp | hp | hp <;> simp [hp]
  | start | sampled | match1Passed | match1 | hold | resampled | check | endHold | match2Passed | noMatch
  | match2Reacquire | match2Turn | reacqHold => simp_all

/-- DUTY_L and DUTY_R: written by the ISSUE phases whose command carries a duty pair, with that pair. -/
theorem RowStep.duty_eq (h : RowStep s u) :
    (⟨u.dutyL, u.dutyR⟩ : DutyPair) = match s.phase with
      | .r1Back => s.cfg.dutyBack
      | .turn => ((s.rule.bind (cmdOf s.cfg)).bind Command.duty).getD ⟨s.dutyL, s.dutyR⟩
      | _ => ⟨s.dutyL, s.dutyR⟩ := by
  cases h with
  | back hp => simp [hp]
  | straight hp hr => simp [hp, hr, cmdOf]
  | turn hp k c hr hk hc => cases hd : c.duty <;> simp [hp, hr, hc, hd]
  | waitSample hp => rcases hp with hp | hp <;> simp [hp]
  | waitHold hp => rcases hp with hp | hp | hp <;> simp [hp]
  | start | sampled | match1Passed | match1 | hold | resampled | check | stop | endHold | match2Passed | noMatch
  | match2Reacquire | match2Turn | reacqStop | reacqHold | reacqForward | tail => simp_all

/-! ## What a step shows (rules R23, R78, R79) -/

/-- The output registers, the strobes and the trace after a row: those of one ISSUE, those of NOMATCH, or a row
that writes no output register, shows no strobe and emits neither event. -/
theorem RowStep.shows (h : RowStep s u) :
    (∃ tag duty, u.outRegs = (s.issue tag duty).outRegs ∧ u.strobes = ⟨true, duty.isSome, false⟩ ∧
      u.trace = s.trace ++ [.issue tag duty]) ∨
    (u.outRegs = s.outRegs ∧ u.strobes = ⟨false, false, true⟩ ∧ u.trace = s.trace ++ [.noMatch]) ∨
    (u.outRegs = s.outRegs ∧ u.strobes = .low ∧ u.trace ≠ s.trace ++ [.noMatch] ∧
      ∀ tag duty, u.trace ≠ s.trace ++ [.issue tag duty]) := by
  cases h with
  | back | stop | reacqStop | reacqForward | straight | turn | tail =>
    exact .inl ⟨_, _, rfl, by simp, by simp⟩
  | noMatch => exact .inr (.inl ⟨rfl, rfl, rfl⟩)
  | start | sampled | waitSample | waitHold | match1Passed | match1 | hold | resampled | check | endHold
  | match2Passed | match2Reacquire | match2Turn | reacqHold =>
    exact .inr (.inr ⟨rfl, rfl, by simp, by simp⟩)

theorem dir_eq_of_outRegs_eq (h : t.outRegs = s.outRegs) : t.dir = s.dir := congrArg OutRegs.dir h

/-- A row with dir_we = 1 writes DIR with a code of the encoder; any other row leaves DIR. -/
theorem RowStep.dir_of_dirWe (h : RowStep s u) :
    (u.strobes.dirWe = true ∧ ∃ tag, u.dir = enc s.cfg tag) ∨ (u.strobes.dirWe = false ∧ u.dir = s.dir) := by
  rcases h.shows with ⟨tag, duty, ho, hs, -⟩ | ⟨ho, hs, -⟩ | ⟨ho, hs, -⟩
  · exact .inl ⟨by rw [hs], tag, by simpa using dir_eq_of_outRegs_eq ho⟩
  · exact .inr ⟨by rw [hs], dir_eq_of_outRegs_eq ho⟩
  · exact .inr ⟨by rw [hs]; rfl, dir_eq_of_outRegs_eq ho⟩

/-- nomatch_o is 1 exactly in the row that emits NOMATCH. -/
theorem RowStep.noMatch_iff (h : RowStep s u) : u.strobes.noMatch = true ↔ u.trace = s.trace ++ [.noMatch] := by
  rcases h.shows with ⟨tag, duty, -, hs, ht⟩ | ⟨-, hs, ht⟩ | ⟨-, hs, ht, -⟩
  · simp [hs, ht]
  · simp [hs, ht]
  · simp [hs, ht, Strobes.low]

/-- The seven listed codes are legal, so the encoder of an accepted record gives no reserved code (rules R50, R77). -/
theorem legalDir4_enc {c : Config} (h : c.wf = true) (tag : Tag) : legalDir4 (enc c tag) = true := by
  obtain ⟨h1, h2, h3, h4, h5, h6, h7⟩ := c.wf_iff.mp h
  cases tag <;> simp only [enc, h1, h2, h3, h4, h5, h6, h7] <;> decide

end Machine

/-- Settles O42, by the lemma over the rows of rule R92. -/
theorem everyStepKeepsPhaseInvariant : Obligations.EveryStepKeepsPhaseInvariant :=
  fun _ _ => step_keeps_phaseInv

/-- Settles O2: the phases that read LAT or RULE fault where it holds no value, and the phase invariant keeps every
run from reset away from them. -/
theorem resetValuesAndNoReadBeforeWrite : Obligations.ResetValuesAndNoReadBeforeWrite :=
  ⟨⟨rfl, rfl, rfl, rfl, rfl, rfl, rfl, rfl, rfl⟩, fun _ => step_of_lat_none, fun _ => step_of_rule_none,
    fun _ _ n => exists_runFor_of_phaseInv n (phaseInv_of_start rfl)⟩

/-- Settles O35: a row that is not enabled is a wait, and an enabled one goes to another phase. -/
theorem pendingChangesNothing : Obligations.PendingChangesNothing := by
  intro s t hr h
  obtain ⟨u, hu, rfl⟩ := row_of_step hr h
  rw [← enabled_eq_false_iff]
  refine ⟨fun he => ?_, fun he => ?_⟩
  · rw [hu.eq_quiet_of_not_enabled he]
    exact ⟨sameBlock_quiet_tick s, rfl⟩
  · rw [State.tick_phase, hu.phase_eq, if_pos (by simpa using he)]
    exact tablePhase_ne s

/-- Settles O40, one register at a time over the rows of rule R92. -/
theorem onlyTableWritersWrite : Obligations.OnlyTableWritersWrite := by
  intro s t hr h
  obtain ⟨u, hu, rfl⟩ := row_of_step hr h
  exact ⟨hu.lat_eq, hu.dflag_eq, hu.rule_eq, hu.dir_eq, hu.duty_eq, hu.phase_eq⟩

/-- Settles O45: DIR is written by an ISSUE only, with a code of the encoder. -/
theorem noReservedCodeIsWritten : Obligations.NoReservedCodeIsWritten := by
  intro s t hc hr h
  obtain ⟨u, hu, rfl⟩ := row_of_step hr h
  rw [State.tick_strobes, State.tick_dir]
  rcases hu.dir_of_dirWe with ⟨hw, tag, hd⟩ | ⟨hw, hd⟩
  · exact ⟨fun _ => hd ▸ legalDir4_enc hc tag, by simp [hw]⟩
  · exact ⟨by simp [hw], fun _ => hd⟩

/-- Settles O49: the levels are read off the state, and the strobe is that of the row that emits NOMATCH. -/
theorem statusOutputs : Obligations.StatusOutputs := by
  refine ⟨fun s => ⟨rfl, rfl, rfl⟩, fun s t hr h => ?_, fun s hl => ?_⟩
  · obtain ⟨u, hu, rfl⟩ := row_of_step hr h
    exact hu.noMatch_iff
  · have hq := pat_of_lat_none hl
    exact ⟨hq, by simp [State.outputs, hq]⟩

/-- Settles O3: a pass begins at P_START, of which the phase invariant asks nothing, and the trace is empty. -/
theorem resetMeetsInvariants : Obligations.ResetMeetsInvariants :=
  fun _ _ => ⟨phaseInv_of_start rfl, rfl⟩

end Sys2Proof
end

section
/-! PROOF. The encoding: the round trip between instructions and words (rules R44, R47, R48, R50), which instruction
a step runs in each phase (rules R46, R92), and that a placed table word is the one that the next step runs
(assumption log 4). -/

namespace Sys2Proof

open Sys2Proof.Machine

/-! ## Words and instructions (rules R44, R47, R48, R50) -/

@[simp] theorem decode_encode (i : Instr) : decode (encode i) = .ok i := by
  cases i <;> rfl

theorem decode_pat3_eq_ok_iff {p : Pat} {i : Instr} : decode (.pat3 p) = .ok i ↔ decodePat3 p = i := by
  simp [decode]

theorem encode_decodePat3 (p : Pat) : encode (decodePat3 p) = .pat3 p := by
  revert p; decide

theorem encode_of_decodeDir4 {c : Nibble} {i : Instr} (h : decodeDir4 c = .ok i) : encode i = .dir4 c := by
  unfold decodeDir4 at h
  split at h <;> cases h <;> rfl

theorem encode_of_decode {c : Code} {i : Instr} (h : decode c = .ok i) : encode i = c := by
  cases c with
  | pat3 p => rw [← decode_pat3_eq_ok_iff.mp h, encode_decodePat3]
  | dir4 c => exact encode_of_decodeDir4 h

theorem decodeDir4_of_reserved {c : Nibble} (h : legalDir4 c = false) :
    decodeDir4 c = .error (.reservedDirection c) := by
  revert c; decide

/-- Under an accepted record a command's word is the code that the encoder gives for its tag (rules R48, R77). -/
theorem encode_tag_instr {c : Config} (h : c.wf = true) (tag : Tag) : encode tag.instr = .dir4 (enc c tag) := by
  obtain ⟨hstop, hforward, hleft, hright, hsoftRight, hsoftLeft, hback⟩ := c.wf_iff.mp h
  cases tag <;> simp [Tag.instr, encode, enc, *]

theorem decode_enc {c : Config} (h : c.wf = true) (tag : Tag) : decode (.dir4 (enc c tag)) = .ok tag.instr := by
  rw [← encode_tag_instr h, decode_encode]

/-- The instructions of format DIR4 are the seven commands. -/
theorem exists_tag_of_encode {i : Instr} {c : Nibble} (h : encode i = .dir4 c) : ∃ tag : Tag, tag.instr = i := by
  cases i
  case stop => exact ⟨.stop, rfl⟩
  case softRight => exact ⟨.softRight, rfl⟩
  case softLeft => exact ⟨.softLeft, rfl⟩
  case left => exact ⟨.left, rfl⟩
  case forward => exact ⟨.forward, rfl⟩
  case back => exact ⟨.back, rfl⟩
  case right => exact ⟨.right, rfl⟩
  all_goals cases h

theorem decodePat3_of_encode {i : Instr} {p : Pat} (h : encode i = .pat3 p) : decodePat3 p = i := by
  rw [← decode_pat3_eq_ok_iff, ← h, decode_encode]

/-- Settles O13: the two round trips. -/
theorem decodeEncodeAgree : Obligations.DecodeEncodeAgree :=
  ⟨fun i _ => decode_encode i, fun _ _ => encode_of_decode⟩

/-- Settles O14: each row of the table is the round trip of its instruction. -/
theorem opcodeWordsDecode : Obligations.OpcodeWordsDecode :=
  ⟨decode_encode .rule1Recover, decode_encode .rule2Reacquire, decode_encode .rule3Forward,
    decode_encode .rule4SoftLeft, decode_encode .rule5SoftRight, decode_encode .rule6Right,
    decode_encode .rule7Left, decode_encode .noMatch, decode_encode .stop, decode_encode .softRight,
    decode_encode .softLeft, decode_encode .left, decode_encode .forward, decode_encode .back,
    decode_encode .right, fun _ => decodeDir4_of_reserved⟩

namespace Machine

variable {s : State}

/-! ## The rule-table entry that a phase runs (rules R46, R47, R92) -/

/-- The matcher's entry is the one that the decoder reads from PAT. -/
theorem fetchPat_of_pat {p : Pat} (h : s.pat = some p) : fetchPat s = .ok (some (decodePat3 p)) := by
  simp [fetchPat, h, entryOf_matchRule]

theorem fetch_of_match {p : Pat} (hq : s.pat = some p)
    (hp : s.phase = .r1Check ∨ ((s.phase = .match1 ∨ s.phase = .match2) ∧ s.dflag = false)) :
    fetch s = .ok (some (decodePat3 p)) := by
  rw [← fetchPat_of_pat hq]
  rcases hp with hp | ⟨hp | hp, hd⟩
  · simp [fetch, hp]
  · simp [fetch, hp, hd]
  · simp [fetch, hp, hd]

theorem fetch_of_rule1 (hp : s.phase ∈ [Phase.r1Back, .r1Hold, .r1Resample, .r1Stop, .r1EndHold]) :
    fetch s = .ok (some .rule1Recover) := by
  simp only [List.mem_cons, List.not_mem_nil, or_false] at hp
  rcases hp with hp | hp | hp | hp | hp <;> simp [fetch, hp]

theorem fetch_of_rule2 (hp : s.phase ∈ [Phase.r2Stop, .r2Hold, .r2Fwd]) :
    fetch s = .ok (some .rule2Reacquire) := by
  simp only [List.mem_cons, List.not_mem_nil, or_false] at hp
  rcases hp with hp | hp | hp <;> simp [fetch, hp]

/-- In P_TURN and P_FWD_TAIL the entry is the one that RULE numbers. -/
theorem fetch_of_rule {k : RuleNo} (hp : s.phase = .turn ∨ s.phase = .fwdTail) (hk : s.rule = some k) :
    fetch s = .ok (some (entryOf k)) := by
  rcases hp with hp | hp <;> simp [fetch, hp, hk]

/-! ## The command that an ISSUE phase runs (rules R48, R78, R92) -/

/-- A command runs as the one ISSUE of its tag. -/
theorem exec_tag_instr (tag : Tag) (s : State) :
    exec tag.instr s = .next (s.issue tag (dutyOf s.cfg tag s.phase)) := by
  rw [← runCommand_eq]
  cases tag <;> rfl

/-- The ISSUE phases, each with the command it issues. -/
theorem fetchCommand_cases {tag : Tag} (h : fetchCommand s = some tag) :
    (s.phase = .r1Back ∧ tag = .back) ∨
    (s.phase = .r1Stop ∧ tag = .stop) ∨
    (s.phase = .r2Stop ∧ tag = .stop) ∨
    (s.phase = .r2Fwd ∧ tag = .forward) ∨
    (s.phase = .fwdTail ∧ tag = .forward) ∨
    (s.phase = .turn ∧ ∃ k c, s.rule = some k ∧ cmdOf s.cfg k = some c ∧ c.tag = tag) := by
  unfold fetchCommand at h
  split at h
  next hp => cases h; simp [hp]
  next hp => cases h; simp [hp]
  next hp => cases h; simp [hp]
  next hp => cases h; simp [hp]
  next hp => cases h; simp [hp]
  next hp =>
    obtain ⟨c, hb, ht⟩ := Option.map_eq_some_iff.mp h
    obtain ⟨k, hk, hc⟩ := Option.bind_eq_some_iff.mp hb
    exact .inr (.inr (.inr (.inr (.inr ⟨hp, k, c, hk, hc, ht⟩))))
  next => cases h

/-- The step of an ISSUE phase: the command's ISSUE, the row's own writes, the environment's move. -/
theorem step_of_fetchCommand {tag : Tag} (hr : s.pins.rst = false) (hf : fetchCommand s = some tag) :
    step s = .next (issueAfter s (s.issue tag (dutyOf s.cfg tag s.phase))).tick := by
  rcases fetchCommand_cases hf with ⟨hp, rfl⟩ | ⟨hp, rfl⟩ | ⟨hp, rfl⟩ | ⟨hp, rfl⟩ | ⟨hp, rfl⟩ |
    ⟨hp, k, c, hk, hc, rfl⟩
  · rw [step_r1Back hr hp]; simp only [issueAfter, hp]; rfl
  · rw [step_r1Stop hr hp]; simp only [issueAfter, hp]; rfl
  · rw [step_r2Stop hr hp]; simp only [issueAfter, hp]; rfl
  · rw [step_r2Fwd hr hp]; simp only [issueAfter, hp]; rfl
  · rw [step_fwdTail hr hp]; simp only [issueAfter, hp]; rfl
  · simp only [step_turn hr hp, issueAfter, hp, hk, hc, dutyOf_turn_eq_cmdOf hc, Option.some.injEq]; rfl

theorem step_eq_exec_tag_instr {tag : Tag} (hr : s.pins.rst = false) (hf : fetchCommand s = some tag) :
    step s = onNext (fun u => (issueAfter s u).tick) (exec tag.instr s) := by
  rw [step_of_fetchCommand hr hf, exec_tag_instr, onNext_next]

/-! ## Placing an instruction (assumption log 4) -/

theorem withoutReset_head_rst (xs : List Pins) : ((withoutReset xs).headD .idle).rst = false := by
  cases xs <;> rfl

@[simp] theorem place_inputs (s : State) (i : Instr) : (s.place i).inputs = withoutReset s.inputs := by
  cases i <;> rfl

@[simp] theorem place_pins_rst (s : State) (i : Instr) : (s.place i).pins.rst = false := by
  rw [State.pins, place_inputs, withoutReset_head_rst]

/-- Rule 1 is placed at P_MATCH1, every other entry at P_MATCH2. -/
theorem place_decodePat3 (s : State) (p : Pat) :
    s.place (decodePat3 p) = s.atMatch (if p = 0b111#3 then .match1 else .match2) p := by
  rcases ruleNo_cases p with rfl | rfl | rfl | rfl | rfl | rfl | rfl | rfl <;> rfl

theorem fetchCommand_place (s : State) (tag : Tag) : fetchCommand (s.place tag.instr) = some tag := by
  cases tag <;> rfl

/-- 0 is on line under every threshold, and 255 is off line under every threshold but 255 (rule R56). -/
theorem onLine_extreme {c : Config} {b : Bool} (h : c.threshold ≠ 255 ∨ b = true) :
    onLine c (if b then 0 else 255) = b := by
  cases b with
  | true =>
    have hle : 0 ≤ c.threshold := by bv_omega
    simpa [onLine, onLineAt] using hle
  | false =>
    have ht : c.threshold ≠ 255 := by simpa using h
    have hlt : c.threshold < 255 := by bv_omega
    simpa [onLine, onLineAt] using hlt

theorem lanes_append (p : Pat) :
    BitVec.ofBool (onL p) ++ BitVec.ofBool (onC p) ++ BitVec.ofBool (onR p) = p := by
  revert p; decide

theorem classify_readingsFor {c : Config} {p : Pat} (h : c.threshold ≠ 255 ∨ p = 0b111#3) :
    classify c (readingsFor p) = p := by
  have hl : c.threshold ≠ 255 ∨ onL p = true := h.imp_right (by rintro rfl; rfl)
  have hc : c.threshold ≠ 255 ∨ onC p = true := h.imp_right (by rintro rfl; rfl)
  have hr : c.threshold ≠ 255 ∨ onR p = true := h.imp_right (by rintro rfl; rfl)
  simp only [classify, readingsFor, onLine_extreme hl, onLine_extreme hc, onLine_extreme hr, lanes_append]

theorem atMatch_pat {p : Pat} (h : s.cfg.threshold ≠ 255 ∨ p = 0b111#3) (q : Phase) :
    (s.atMatch q p).pat = some p :=
  congrArg some (classify_readingsFor h)

theorem withFetchWord_eq_place {nbits w : Nat} {i : Instr} (h : decodeTableWord nbits w = some i) :
    s.withFetchWord nbits w = s.place i := by
  simp [State.withFetchWord, h]

/-- The next step of a placed entry fetches it. -/
theorem fetch_place_decodePat3 {p : Pat} (h : s.cfg.threshold ≠ 255 ∨ p = 0b111#3) :
    fetch (s.place (decodePat3 p)) = .ok (some (decodePat3 p)) := by
  rw [place_decodePat3]
  refine fetch_of_match (atMatch_pat h _) (.inr ⟨?_, rfl⟩)
  by_cases h7 : p = 0b111#3
  · exact .inl (if_pos h7)
  · exact .inr (if_neg h7)

end Machine

/-- Settles O26: in a match phase the step fetches what the decoder reads from PAT. -/
theorem stepRunsMatchedEntry : Obligations.StepRunsMatchedEntry := by
  intro s p i hr hq hi _ hp
  obtain rfl := decode_pat3_eq_ok_iff.mp hi
  exact step_of_instr hr (fetch_of_match hq hp)

/-- Settles O27: the fetch of each phase of an action list. -/
theorem stepRunsEntryInProgress : Obligations.StepRunsEntryInProgress := by
  intro s hr
  refine ⟨fun hp => step_of_instr hr (fetch_of_rule1 hp), fun hp => step_of_instr hr (fetch_of_rule2 hp),
    fun hp => ?_⟩
  have run {k : RuleNo} (hk : s.rule = some k) : step s = onNext State.tick (exec (entryOf k) s) :=
    step_of_instr hr (fetch_of_rule hp hk)
  exact ⟨fun hk _ => run hk, run, run, run, run⟩

/-- Settles O28: the encoder's code is the command's word, and each ISSUE row is the command and its own writes. -/
theorem stepRunsIssuedCommand : Obligations.StepRunsIssuedCommand :=
  fun _ tag hr hf => ⟨fun hc => decode_enc hc tag, step_eq_exec_tag_instr hr hf⟩

/-- Settles O29: a placed pattern word stands in LAT and a placed direction code at an ISSUE phase of its tag. -/
theorem placedWordRunsNext : Obligations.PlacedWordRunsNext := by
  intro s nbits w i hw
  rw [withFetchWord_eq_place hw]
  cases he : encode i with
  | pat3 p =>
    intro ht
    obtain rfl := decodePat3_of_encode he
    exact step_of_instr (place_pins_rst s _) (fetch_place_decodePat3 ht)
  | dir4 c =>
    obtain ⟨tag, rfl⟩ := exists_tag_of_encode he
    exact step_eq_exec_tag_instr (place_pins_rst s _) (fetchCommand_place s tag)

end Sys2Proof
end

section
/-! PROOF. The sensors: the comparator, its gate form and the comparator array (rules R56 to R60), and the sample
phases, which latch a delivered triple or wait for one (rules R54, R98). -/

namespace Sys2Proof

open Sys2Proof.Machine

namespace Machine

variable {s t u : State}

/-! ## The comparator (rules R56, R57, R60) -/

theorem onLine_eq_true_iff (c : Config) (v : Byte) : onLine c v = true ↔ v.toNat ≤ c.threshold.toNat := by
  simp [onLine, onLineAt, BitVec.le_def]

theorem onLine_eq_false_iff (c : Config) (v : Byte) : onLine c v = false ↔ c.threshold.toNat < v.toNat := by
  simp [← Bool.not_eq_true, onLine_eq_true_iff]

/-- Under every threshold the values on line are those from 0 to the threshold. -/
theorem filter_onLine_range (c : Config) :
    (List.range 256).filter (fun n => onLine c (BitVec.ofNat 8 n)) = List.range (c.threshold.toNat + 1) := by
  have hth : c.threshold.toNat + 1 ≤ 256 := c.threshold.isLt
  calc (List.range 256).filter (fun n => onLine c (BitVec.ofNat 8 n))
      = (List.range 256).filter (fun n => n < c.threshold.toNat + 1) := by
        refine List.filter_congr fun n hn => ?_
        have hn : n < 256 := List.mem_range.mp hn
        rw [Bool.eq_iff_iff, onLine_eq_true_iff, BitVec.toNat_ofNat, Nat.mod_eq_of_lt hn, decide_eq_true_iff,
          Nat.lt_succ_iff]
    _ = List.range (c.threshold.toNat + 1) := by
        rw [← List.Ico.zero_bot, List.Ico.filter_lt, Nat.min_eq_right hth, List.Ico.zero_bot]

/-- The gates compare with 16: bits 7 to 5 are 0, and either bit 4 is, or bits 3 to 0 are. -/
theorem onLineGates_eq_true_iff (v : Byte) : onLineGates v = true ↔ v.toNat ≤ 16 := by
  have hv : v.toNat < 256 := v.isLt
  simp only [onLineGates, BitVec.getLsbD, Nat.testBit_eq_decide_div_mod_eq, Bool.and_eq_true, Bool.or_eq_true,
    Bool.not_eq_true', Bool.or_eq_false_iff, decide_eq_false_iff_not]
  omega

/-- Under a threshold other than 16 the gates and the comparator differ: at 16 below it, at 17 above it. -/
theorem exists_onLineGates_ne {c : Config} (h : c.threshold ≠ 16) : ∃ v, onLineGates v ≠ onLine c v := by
  rcases Nat.lt_or_gt_of_ne (BitVec.toNat_ne.mp h) with hlt | hgt
  · refine ⟨16, ?_⟩
    have hoff : onLine c 16 = false := (onLine_eq_false_iff c 16).mpr hlt
    rw [hoff]; decide
  · refine ⟨17, ?_⟩
    have hon : onLine c 17 = true := (onLine_eq_true_iff c 17).mpr hgt
    rw [hon]; decide

theorem onLineAt_of_le {th v1 v2 : Byte} (h : v1 ≤ v2) (h2 : onLineAt th v2 = true) : onLineAt th v1 = true :=
  decide_eq_true (BitVec.le_trans h (of_decide_eq_true h2))

/-! ## The comparator array (rules R43, R59) -/

/-- Each bit of PAT is the comparator of its own lane. -/
theorem getLsbD_classify (c : Config) (x : Readings) : (classify c x).getLsbD 2 = onLine c x.l ∧
    (classify c x).getLsbD 1 = onLine c x.c ∧ (classify c x).getLsbD 0 = onLine c x.r := by
  unfold classify
  cases onLine c x.l <;> cases onLine c x.c <;> cases onLine c x.r <;> decide

theorem pat_of_lat {x : Readings} (h : s.lat = some x) : s.pat = some (classify s.cfg x) := by
  simp [State.pat, h]

/-! ## States that differ in the environment's part and the strobes only -/

theorem sameBlock_refl (s : State) : s.sameBlock s = true := by simp [State.sameBlock]

theorem sameBlock_trans (hst : s.sameBlock t = true) (htu : t.sameBlock u = true) : s.sameBlock u = true := by
  simp_all [State.sameBlock]

theorem phase_eq_of_sameBlock (h : s.sameBlock t = true) : t.phase = s.phase := by
  simp_all [State.sameBlock]

/-! ## A step that is not enabled is a wait, and so is a run of them (rules R26, R92, R98; assumption log 8) -/

theorem smpReq_eq_true_iff {p : Phase} : smpReq p = true ↔ p = .sample ∨ p = .r1Resample := by
  simp [smpReq]

theorem holdReq_eq_true_iff {p : Phase} : holdReq p = true ↔ p = .r1Hold ∨ p = .r1EndHold ∨ p = .r2Hold := by
  simp [holdReq, or_assoc]

theorem sampleRow_of_not_valid (p : Phase) (hv : s.pins.smpValid = false) : sampleRow p s = .next s.quiet := by
  simp [sampleRow, wait, hv]

theorem holdRow_of_not_done (n : Count) (after : State → State) (hv : s.pins.holdDone = false) :
    holdRow n after s = .next s.quiet := by
  simp [holdRow, wait, hv]

theorem step_of_not_enabled (hr : s.pins.rst = false) (he : enabled s = false) : step s = .next s.quiet.tick := by
  rcases enabled_eq_false_iff.mp he with ⟨hq, hv⟩ | ⟨hq, hv⟩
  · rcases smpReq_eq_true_iff.mp hq with hp | hp
    · rw [step_sample hr hp, sampleRow_of_not_valid _ hv, onNext_next]
    · rw [step_r1Resample hr hp, sampleRow_of_not_valid _ hv, onNext_next]
  · rcases holdReq_eq_true_iff.mp hq with hp | hp | hp
    · rw [step_r1Hold hr hp, holdRow_of_not_done _ _ hv, onNext_next]
    · rw [step_r1EndHold hr hp, holdRow_of_not_done _ _ hv, onNext_next]
    · rw [step_r2Hold hr hp, holdRow_of_not_done _ _ hv, onNext_next]

/-- What holds of the next `n + 1` entries of the environment, and of one that does nothing, holds of the pins now
and of the `n` entries after them. -/
theorem forall_take_succ {W : Pins → Prop} (hidle : W .idle) {n : Nat} (h : ∀ p ∈ s.inputs.take (n + 1), W p) :
    W s.pins ∧ ∀ p ∈ s.inputs.tail.take n, W p := by
  unfold State.pins
  cases hx : s.inputs with
  | nil => simpa using hidle
  | cons p ps => simpa [hx] using h

/-- While the environment presents only pins `W` under which the phase is not enabled, a run is a wait: the block
stays as it is. -/
theorem exists_runFor_waiting {W : Pins → Prop} (hidle : W .idle) (p : Phase)
    (hwait : ∀ v : State, v.phase = p → W v.pins → v.pins.rst = false ∧ enabled v = false)
    (n : Nat) (hp : s.phase = p) (h : ∀ x ∈ s.inputs.take n, W x) :
    ∃ t, runFor n s = .next t ∧ s.sameBlock t = true := by
  induction n generalizing s with
  | zero => exact ⟨s, rfl, sameBlock_refl s⟩
  | succ n ih =>
    obtain ⟨hnow, hlater⟩ := forall_take_succ hidle h
    obtain ⟨hr, he⟩ := hwait s hp hnow
    obtain ⟨t, ht, hsame⟩ := ih (s := s.quiet.tick) hp hlater
    exact ⟨t, by rw [runFor_succ_of_step (step_of_not_enabled hr he), ht],
      sameBlock_trans (sameBlock_quiet_tick s) hsame⟩

/-! ## The sample phases (rule R54) -/

/-- A sample phase with a delivery latches the triple, reports it and goes on. -/
theorem step_of_delivery (hp : s.phase = .sample ∨ s.phase = .r1Resample) (hr : s.pins.rst = false)
    (hv : s.pins.smpValid = true) :
    step s = .next (((s.quiet.latch ⟨s.pins.smpL, s.pins.smpC, s.pins.smpR⟩).emit
      (.sample s.pins.smpL s.pins.smpC s.pins.smpR)).goto
        (if s.phase = .sample then .match1 else .r1Check)).tick := by
  rcases hp with hp | hp
  · rw [step_sample hr hp, sampleRow_of_valid _ hv, onNext_next, if_pos hp]
  · rw [step_r1Resample hr hp, sampleRow_of_valid _ hv, onNext_next, if_neg (by simp [hp])]

/-- Without a delivery a sample phase waits, for any number of steps. -/
theorem exists_runFor_no_delivery (hq : smpReq s.phase = true) (n : Nat)
    (h : ∀ p ∈ s.inputs.take n, p.rst = false ∧ p.smpValid = false) :
    ∃ t, runFor n s = .next t ∧ s.sameBlock t = true :=
  exists_runFor_waiting (W := fun x => x.rst = false ∧ x.smpValid = false) ⟨rfl, rfl⟩ s.phase
    (fun _ hp ⟨hr, hv⟩ => ⟨hr, enabled_eq_false_iff.mpr (.inl ⟨hp ▸ hq, hv⟩)⟩) n rfl h

end Machine

/-- Settles O33: a delivery runs the sample row in one step, and without one every step of the run is a wait. -/
theorem sampleLatchesOrWaits : Obligations.SampleLatchesOrWaits := by
  intro s hp
  have hq : smpReq s.phase = true := smpReq_eq_true_iff.mpr hp
  refine ⟨hq, fun hr hv => step_of_delivery hp hr hv, fun t hr hv ht => ?_, fun n h => ?_⟩
  · obtain rfl := Host.Outcome.next.inj ((step_of_delivery hp hr hv).symm.trans ht)
    show smpReq (if s.phase = .sample then .match1 else .r1Check) = false
    split <;> rfl
  · obtain ⟨t, ht, hsame⟩ := exists_runFor_no_delivery hq n h
    refine ⟨t, ht, hsame, ?_⟩
    show smpReq t.phase = true
    rwa [phase_eq_of_sameBlock hsame]

/-- Settles O5: the values on line are those from 0 to the threshold, so 17 of them under the document's. -/
theorem comparatorIsInclusiveThreshold : Obligations.ComparatorIsInclusiveThreshold := by
  refine ⟨onLine_eq_true_iff, fun _ _ => rfl, rfl, ?_, ?_, ?_, ?_, ?_⟩
  · exact (onLine_eq_true_iff _ _).mpr (by decide)
  · exact (onLine_eq_true_iff _ _).mpr (by decide)
  · exact (onLine_eq_false_iff _ _).mpr (by decide)
  · exact (onLine_eq_false_iff _ _).mpr (by decide)
  · rw [filter_onLine_range, List.length_range]; rfl

/-- Settles O6: the gates compare with 16, whatever the threshold is. -/
theorem comparatorGateForm : Obligations.ComparatorGateForm := by
  refine ⟨fun c v h => ?_, onLine_eq_true_iff, fun _ => exists_onLineGates_ne⟩
  rw [Bool.eq_iff_iff, onLineGates_eq_true_iff, onLine_eq_true_iff, h]
  rfl

/-- Settles O7: PAT reads LAT and the record only, and the comparison is transitive. -/
theorem classificationMonotone : Obligations.ClassificationMonotone :=
  ⟨fun _ _ => State.pat_eq_of_lat, fun _ _ _ => onLineAt_of_le⟩

/-- Settles O8: CLASSIFY puts the three comparators side by side. -/
theorem comparatorArrayLanes : Obligations.ComparatorArrayLanes :=
  ⟨getLsbD_classify, fun _ _ => pat_of_lat, fun _ => pat_of_lat_none, by decide⟩

end Sys2Proof
end

section
/-! PROOF. The rule matcher and the rule table: the match lines and their priority (rules R61 to R64), the command
multiplexer (rule R65), what each entry does in each phase of its action list (rules R68 to R76), how a step can end
(rule R98), and what a whole pass fires and leaves (rules R66, R67, R101). -/

namespace Sys2Proof

open Sys2Proof.Machine

namespace Machine

variable {s t u v : State}

/-! ## The matcher (rules R62 to R64) -/

@[simp] theorem firstMatch_cons (k : RuleNo) (m : Bool) (l : List (RuleNo × Bool)) :
    firstMatch ((k, m) :: l) = if m then k else firstMatch l := rfl

/-- Where no line is numbered 0, the encoder answers 0 exactly when no line is 1. -/
theorem firstMatch_eq_zero_iff {l : List (RuleNo × Bool)} (h0 : ∀ x ∈ l, x.1 ≠ 0) :
    firstMatch l = 0 ↔ ∀ k, (k, true) ∉ l := by
  induction l with
  | nil => simp [firstMatch]
  | cons x l ih =>
    obtain ⟨i, m⟩ := x
    have hi : i ≠ 0 := h0 (i, m) List.mem_cons_self
    have ih := ih fun x hx => h0 x (List.mem_cons_of_mem _ hx)
    cases m with
    | true => exact iff_of_false hi fun h => h i List.mem_cons_self
    | false => simpa using ih

/-- Where the lines stand in ascending order, the encoder answers the least line that is 1. -/
theorem firstMatch_eq_iff {l : List (RuleNo × Bool)} (hl : l.Pairwise (·.1 < ·.1)) {k : RuleNo} (hk : k ≠ 0) :
    firstMatch l = k ↔ (k, true) ∈ l ∧ ∀ j < k, (j, true) ∉ l := by
  induction l with
  | nil => simpa [firstMatch] using hk.symm
  | cons x l ih =>
    obtain ⟨i, m⟩ := x
    obtain ⟨hi, hrest⟩ := List.pairwise_cons.mp hl
    cases m with
    | false => simpa using ih hrest
    | true =>
      rw [firstMatch_cons, if_pos rfl]
      constructor
      · rintro rfl
        refine ⟨List.mem_cons_self, fun j hj hm => ?_⟩
        rcases List.mem_cons.mp hm with h | h
        · obtain rfl : j = i := congrArg Prod.fst h
          exact BitVec.lt_irrefl _ hj
        · exact BitVec.lt_asymm hj (hi _ h)
      · rintro ⟨hm, hleast⟩
        rcases List.mem_cons.mp hm with h | h
        · exact (congrArg Prod.fst h).symm
        · exact absurd List.mem_cons_self (hleast i (hi _ h))

theorem matchLines_ascending (p : Pat) : (matchLines p).Pairwise (·.1 < ·.1) := by
  simp [matchLines]

theorem ne_zero_of_mem_matchLines {p : Pat} {x : RuleNo × Bool} (h : x ∈ matchLines p) : x.1 ≠ 0 := by
  have hk : x.1 ∈ (matchLines p).map Prod.fst := List.mem_map_of_mem h
  rintro h0
  simp [matchLines, h0] at hk

/-- Only 0b101 selects no rule, only 0b111 rule 1 and only 0b000 rule 2 (rule R64). -/
theorem matchRule_eq_zero_iff {p : Pat} : matchRule p false = 0#3 ↔ p = 0b101#3 := by revert p; decide
theorem matchRule_eq_one_iff {p : Pat} : matchRule p false = 1#3 ↔ p = 0b111#3 := by revert p; decide
theorem matchRule_eq_two_iff {p : Pat} : matchRule p false = 2#3 ↔ p = 0b000#3 := by revert p; decide

end Machine

/-- Settles O9: the eight rows of rule R64, and each pattern meets at most one minterm. -/
theorem matcherTruthTable : Obligations.MatcherTruthTable := by
  refine ⟨⟨rfl, rfl⟩, ⟨rfl, rfl⟩, ⟨rfl, rfl⟩, ⟨rfl, rfl⟩, ⟨rfl, rfl⟩, ⟨rfl, rfl⟩, ⟨rfl, rfl⟩, ⟨rfl, rfl⟩,
    ?_⟩
  decide

/-- Settles O10: the lines stand in ascending order, so the first that is 1 is the least. -/
theorem matcherPriority : Obligations.MatcherPriority :=
  ⟨fun _ => rfl, fun p _ hk => firstMatch_eq_iff (matchLines_ascending p) hk,
    fun _ => firstMatch_eq_zero_iff fun _ => ne_zero_of_mem_matchLines, rfl, rfl⟩

/-- Settles O11: the eight rows of rule R65, and in P_TURN the phase invariant leaves RULE the values 3 to 7. -/
theorem commandMux : Obligations.CommandMux := by
  refine ⟨fun c => ⟨rfl, rfl, rfl, rfl, rfl, rfl, rfl, rfl⟩, fun c xs n t ht hp => ?_⟩
  have hi : phaseInv t = true :=
    runFor_keeps (P := fun v => phaseInv v = true) step_keeps_phaseInv (phaseInv_of_start rfl) ht
  obtain ⟨k, hk, h3⟩ := rule_of_phaseInv_turn hi hp
  obtain ⟨tag, d, hd⟩ := cmdOf_of_three_le t.cfg h3
  exact ⟨k, _, hk, hd⟩

namespace Machine

variable {s t u v : State}

/-! ## The rows an entry meets (rules R92, R94 to R96) -/

theorem holdRow_of_done (n : Count) (after : State → State) (hv : s.pins.holdDone = true) :
    holdRow n after s = .next (after (s.quiet.emit (.hold n))) := by
  simp [holdRow, hv]

theorem match1Row_one (hd : s.dflag = false) : match1Row 1#3 s = .next (s.quiet.goto .r1Back) := by
  simp [match1Row, hd]

theorem match1Row_passed {k : RuleNo} (h : s.dflag = true ∨ k ≠ 1#3) :
    match1Row k s = .next (s.quiet.goto .match2) := by
  rcases h with h | h <;> simp [match1Row, h]

theorem checkRow_passed {k : RuleNo} (h : k ≠ 1#3) : checkRow k s = .next (s.quiet.goto .match2) := by
  simp [checkRow, h]

theorem match2Row_of_dflag (k : RuleNo) (hd : s.dflag = true) : match2Row k s = .next (s.quiet.goto .start) := by
  simp [match2Row, hd]

theorem match2Row_zero (hd : s.dflag = false) :
    match2Row 0#3 s = .next ((((s.setRule 0#3).emit .noMatch).strobe false false true).goto .start) := by
  simp [match2Row, hd]

theorem match2Row_of_rule {k : RuleNo} (hd : s.dflag = false) (h0 : k ≠ 0#3) (h1 : k ≠ 1#3) :
    match2Row k s = .next ((s.quiet.setRule k).goto (if k = 2#3 then .r2Stop else .turn)) := by
  simp [match2Row, hd, h0, h1]

theorem turnRow_of_cmd {k : RuleNo} {tag : Tag} {duty : Option DutyPair} (hp : s.phase = .turn)
    (hc : cmdOf s.cfg k = some ⟨tag, duty⟩) :
    turnRow k s = .next (if k = 3#3 then (s.issue tag duty).finish else (s.issue tag duty).goto .fwdTail) := by
  have hd : dutyOf s.cfg tag s.phase = duty := hp ▸ dutyOf_turn_eq_cmdOf hc
  simp [turnRow, hc, issueRow_eq, hd]

theorem tailRow_eq (hp : s.phase = .fwdTail) : tailRow s = .next (s.issue .forward none).finish := by
  simp [tailRow, issueRow_eq, hp, dutyOf]

theorem entryStep_match1 (k : RuleNo) (hp : s.phase = .match1) : entryStep k s = match1Row k s := by
  simp [entryStep, hp]

theorem entryStep_r1Check (k : RuleNo) (hp : s.phase = .r1Check) : entryStep k s = checkRow k s := by
  simp [entryStep, hp]

theorem entryStep_match2 (k : RuleNo) (hp : s.phase = .match2) : entryStep k s = match2Row k s := by
  simp [entryStep, hp]

theorem entryStep_turn (k : RuleNo) (hp : s.phase = .turn) : entryStep k s = turnRow k s := by
  simp [entryStep, hp]

theorem entryStep_fwdTail (k : RuleNo) (hp : s.phase = .fwdTail) : entryStep k s = tailRow s := by
  simp [entryStep, hp]

end Machine

/-- Settles O21: in each phase of its list the entry is the row of that phase. -/
theorem rule1RecoverActions : Obligations.Rule1RecoverActions := by
  intro s
  refine ⟨fun hp hd => ?_, fun hp => ?_, fun hp hv => ?_, fun hp hv => ?_, fun hp => ?_, fun hp => ?_,
    fun hp hv => ?_⟩
  all_goals simp only [exec, execRule1Recover, hp]
  · rw [entryStep_match1 _ hp, match1Row_one hd]; rfl
  · rw [issueRow_eq]; rfl
  · rw [holdRow_of_done _ _ hv]; rfl
  · rw [sampleRow_of_valid _ hv]; rfl
  · rw [entryStep_r1Check _ hp]; rfl
  · rw [issueRow_eq]; rfl
  · rw [holdRow_of_done _ _ hv]; rfl

/-- Settles O22: in each phase of its list the entry is the row of that phase. -/
theorem rule2ReacquireActions : Obligations.Rule2ReacquireActions := by
  intro s
  refine ⟨fun hp hd => ?_, fun hp => ?_, fun hp hv => ?_, fun hp => ?_⟩
  all_goals simp only [exec, execRule2Reacquire, hp]
  · rw [entryStep_match2 _ hp, match2Row_of_rule hd (by decide) (by decide)]; rfl
  · rw [issueRow_eq]; rfl
  · rw [holdRow_of_done _ _ hv]; rfl
  · rw [issueRow_eq, hp]; rfl

/-- Settles O23: selection, turn and tail are the shared rows, for the number of the entry. -/
theorem turnEntryActions : Obligations.TurnEntryActions := by
  intro s
  refine ⟨fun hp hd => ?_, fun hp => ?_, fun hp i hi => ?_⟩
  · have select {k : RuleNo} (hk : 3#3 ≤ k) :
        entryStep k s = .next ((s.quiet.setRule k).goto .turn) := by
      have hne : ∀ k : RuleNo, 3#3 ≤ k → k ≠ 0#3 ∧ k ≠ 1#3 ∧ k ≠ 2#3 := by decide
      obtain ⟨h0, h1, h2⟩ := hne k hk
      rw [entryStep_match2 _ hp, match2Row_of_rule hd h0 h1, if_neg h2]
    exact ⟨select (k := 3#3) (by decide), select (k := 4#3) (by decide), select (k := 5#3) (by decide),
      select (k := 6#3) (by decide), select (k := 7#3) (by decide)⟩
  · have turn {k : RuleNo} {tag : Tag} {duty : Option DutyPair} (hc : cmdOf s.cfg k = some ⟨tag, duty⟩) :
        entryStep k s =
          .next (if k = 3#3 then (s.issue tag duty).finish else (s.issue tag duty).goto .fwdTail) := by
      rw [entryStep_turn _ hp, turnRow_of_cmd hp hc]
    exact ⟨turn (k := 3#3) rfl, turn (k := 4#3) rfl, turn (k := 5#3) rfl, turn (k := 6#3) rfl,
      turn (k := 7#3) rfl⟩
  · have tail (k : RuleNo) : entryStep k s = .next (s.issue .forward none).finish := by
      rw [entryStep_fwdTail _ hp, tailRow_eq hp]
    simp only [List.mem_cons, List.not_mem_nil, or_false] at hi
    rcases hi with rfl | rfl | rfl | rfl
    exacts [tail 4#3, tail 5#3, tail 6#3, tail 7#3]

/-- Settles O24: a match step of an entry is the shared row for the number that the pattern selects. -/
theorem entriesPassedOver : Obligations.EntriesPassedOver := by
  intro s p
  rw [← entryOf_matchRule]
  refine ⟨fun hp hd => ?_, fun hp h => ?_, fun hp h => ?_⟩
  · rw [exec_entryOf _ (by simp [hp]), entryStep_match2 _ hp, match2Row_of_dflag _ hd]; rfl
  · have h1 : s.dflag = true ∨ matchRule p false ≠ 1#3 := h.imp_right matchRule_ne_one
    rw [exec_entryOf _ (by simp [hp]), entryStep_match1 _ hp, match1Row_passed h1]; rfl
  · rw [exec_entryOf _ (by simp [hp]), entryStep_r1Check _ hp, checkRow_passed (matchRule_ne_one h)]; rfl

namespace Machine

variable {s t u v w : State}

/-! ## One step in each phase that tests a pattern, reads RULE or ends a hold (rules R92, R94 to R97) -/

theorem step_match1_allOn (hr : s.pins.rst = false) (hp : s.phase = .match1) (hd : s.dflag = false)
    (hq : s.pat = some 0b111#3) : step s = .next (s.quiet.goto .r1Back).tick := by
  rw [step_match1 hr hp, hd, hq]; rfl

theorem step_match1_passed {p : Pat} (hr : s.pins.rst = false) (hp : s.phase = .match1) (hd : s.dflag = false)
    (hq : s.pat = some p) (h7 : p ≠ 0b111#3) : step s = .next (s.quiet.goto .match2).tick := by
  rw [step_match1 hr hp, hd, hq]; simp [h7]

theorem step_r1Check_allOn (hr : s.pins.rst = false) (hp : s.phase = .r1Check) (hq : s.pat = some 0b111#3) :
    step s = .next (s.quiet.goto .r1Stop).tick := by
  rw [step_r1Check hr hp, hq]; rfl

theorem step_r1Check_passed {p : Pat} (hr : s.pins.rst = false) (hp : s.phase = .r1Check) (hq : s.pat = some p)
    (h7 : p ≠ 0b111#3) : step s = .next (s.quiet.goto .match2).tick := by
  rw [step_r1Check hr hp, hq]; simp [h7]

theorem step_match2_of_dflag (hr : s.pins.rst = false) (hp : s.phase = .match2) (hd : s.dflag = true) :
    step s = .next (s.quiet.goto .start).tick := by
  rw [step_match2 hr hp, if_pos hd]

theorem step_match2_noMatch (hr : s.pins.rst = false) (hp : s.phase = .match2) (hd : s.dflag = false)
    (hq : s.pat = some 0b101#3) :
    step s = .next ((((s.setRule 0#3).emit .noMatch).strobe false false true).goto .start).tick := by
  have hm : matchRule 0b101#3 false = 0#3 := rfl
  rw [step_match2 hr hp, if_neg (by simp [hd]), hq]
  simp only [hm, match2Row_zero hd, onNext_next]

theorem step_match2_of_rule {p : Pat} (hr : s.pins.rst = false) (hp : s.phase = .match2) (hd : s.dflag = false)
    (hq : s.pat = some p) (h5 : p ≠ 0b101#3) (h7 : p ≠ 0b111#3) :
    step s = .next ((s.quiet.setRule (matchRule p false)).goto
      (if p = 0b000#3 then .r2Stop else .turn)).tick := by
  have h0 : matchRule p false ≠ 0#3 := mt matchRule_eq_zero_iff.mp h5
  rw [step_match2 hr hp, if_neg (by simp [hd]), hq]
  simp only [match2Row_of_rule hd h0 (matchRule_ne_one h7), onNext_next, matchRule_eq_two_iff]

theorem step_turn_of_cmd {k : RuleNo} {tag : Tag} {duty : Option DutyPair} (hr : s.pins.rst = false)
    (hp : s.phase = .turn) (hk : s.rule = some k) (hc : cmdOf s.cfg k = some ⟨tag, duty⟩) :
    step s = .next (if k = 3#3 then (s.issue tag duty).finish else (s.issue tag duty).goto .fwdTail).tick := by
  simp only [step_turn hr hp, hk, hc]

theorem step_r1Hold_done (hr : s.pins.rst = false) (hp : s.phase = .r1Hold) (hv : s.pins.holdDone = true) :
    step s = .next ((s.quiet.emit (.hold s.cfg.tBack)).goto .r1Resample).tick := by
  rw [step_r1Hold hr hp, holdRow_of_done _ _ hv, onNext_next]

theorem step_r1EndHold_done (hr : s.pins.rst = false) (hp : s.phase = .r1EndHold) (hv : s.pins.holdDone = true) :
    step s = .next (((s.quiet.emit (.hold s.cfg.tEnd)).setFlag true).goto .match2).tick := by
  rw [step_r1EndHold hr hp, holdRow_of_done _ _ hv, onNext_next]

theorem step_r2Hold_done (hr : s.pins.rst = false) (hp : s.phase = .r2Hold) (hv : s.pins.holdDone = true) :
    step s = .next ((s.quiet.emit (.hold s.cfg.tReacq)).goto .r2Fwd).tick := by
  rw [step_r2Hold hr hp, holdRow_of_done _ _ hv, onNext_next]

/-! ## How a step can end (rule R98) -/

theorem match2Row_ne_refused (k : RuleNo) (s : State) (r : Refusal) : match2Row k s ≠ .refused r := by
  rw [match2Row_eq]; split_ifs <;> simp

theorem turnRow_ne_refused (k : RuleNo) (s : State) (r : Refusal) : turnRow k s ≠ .refused r := by
  unfold turnRow
  split
  · simp
  · rw [issueRow_eq]; simp

theorem ne_refused_of_exists_next {x : Result} (h : ∃ t, x = .next t) (r : Refusal) : x ≠ .refused r := by
  obtain ⟨t, rfl⟩ := h; simp

theorem exists_issueRow (tag : Tag) (after : State → State) (s : State) : ∃ t, issueRow tag after s = .next t :=
  ⟨_, issueRow_eq tag after s⟩

theorem entryStep_ne_refused (k : RuleNo) (s : State) (r : Refusal) : entryStep k s ≠ .refused r := by
  unfold entryStep
  split
  · simp [match1Row]
  · simp [checkRow]
  · exact match2Row_ne_refused k s r
  · exact turnRow_ne_refused k s r
  · exact ne_refused_of_exists_next (exists_issueRow _ _ s) r
  · simp

theorem sequencerRow_ne_refused (s : State) (r : Refusal) : sequencerRow s ≠ .refused r := by
  unfold sequencerRow
  split
  · simp [startRow]
  · exact ne_refused_of_exists_next (exists_sampleRow _ s) r
  · simp
  · simp
  · exact ne_refused_of_exists_next (exists_issueRow _ _ s) r
  · simp

theorem execRule1Recover_ne_refused (s : State) (r : Refusal) : execRule1Recover s ≠ .refused r := by
  unfold execRule1Recover
  split
  · exact ne_refused_of_exists_next (exists_issueRow _ _ s) r
  · exact ne_refused_of_exists_next (exists_holdRow _ _ s) r
  · exact ne_refused_of_exists_next (exists_sampleRow _ s) r
  · exact ne_refused_of_exists_next (exists_issueRow _ _ s) r
  · exact ne_refused_of_exists_next (exists_holdRow _ _ s) r
  · exact entryStep_ne_refused _ s r

theorem execRule2Reacquire_ne_refused (s : State) (r : Refusal) : execRule2Reacquire s ≠ .refused r := by
  unfold execRule2Reacquire
  split
  · exact ne_refused_of_exists_next (exists_issueRow _ _ s) r
  · exact ne_refused_of_exists_next (exists_holdRow _ _ s) r
  · exact ne_refused_of_exists_next (exists_issueRow _ _ s) r
  · exact entryStep_ne_refused _ s r

/-- No instruction is refused: every entry is a row of the table, and every command completes. -/
theorem exec_ne_refused (i : Instr) (s : State) (r : Refusal) : exec i s ≠ .refused r := by
  cases i with
  | rule1Recover => exact execRule1Recover_ne_refused s r
  | rule2Reacquire => exact execRule2Reacquire_ne_refused s r
  | rule3Forward | rule4SoftLeft | rule5SoftRight | rule6Right | rule7Left | noMatch =>
    exact entryStep_ne_refused _ s r
  | stop | softRight | softLeft | left | forward | back | right => exact nofun

theorem step_ne_refused (s : State) (r : Refusal) : step s ≠ .refused r := by
  intro h
  cases hr : s.pins.rst with
  | true => rw [step_of_rst hr] at h; cases h
  | false =>
    cases hf : fetch s with
    | error f => rw [step_of_error hr hf] at h; cases h
    | ok o =>
      cases o with
      | none => rw [step_of_row hr hf, onNext_eq_refused] at h; exact sequencerRow_ne_refused s r h
      | some i => rw [step_of_instr hr hf, onNext_eq_refused] at h; exact exec_ne_refused i s r h

theorem lat_of_pat_none (h : s.pat = none) : s.lat = none := Option.map_eq_none_iff.mp h

theorem match2Row_eq_fault {k : RuleNo} {e : Fault} (h : match2Row k s = .fault e) :
    e = .ruleOneAtMatch2 ∧ s.dflag = false ∧ k = 1#3 := by
  rw [match2Row_eq] at h
  split_ifs at h with hd h1
  cases h
  exact ⟨rfl, by simpa using hd, h1⟩

/-- Only rule 0 has no command (rule R65). -/
theorem cmdOf_eq_none_iff {c : Config} {k : RuleNo} : cmdOf c k = none ↔ k = 0#3 := by
  rcases ruleNo_cases k with rfl | rfl | rfl | rfl | rfl | rfl | rfl | rfl <;> simp [cmdOf]

theorem onNext_ne_fault {f : State → State} {x : Result} (h : ∃ t, x = .next t) (e : Fault) :
    onNext f x ≠ .fault e := by
  obtain ⟨t, rfl⟩ := h; simp

/-- The faults of a step, each with its place: a latch or RULE that holds no value is read, rule 1 comes up at
P_MATCH2, or P_TURN asks for the command of rule 0. -/
theorem step_eq_fault {e : Fault} (h : step s = .fault e) :
    (e = .latNoValue ∧ s.lat = none ∧ s.phase ∈ [Phase.match1, .r1Check, .match2]) ∨
    (e = .ruleNoValue ∧ s.rule = none ∧ s.phase = .turn) ∨
    (e = .ruleOneAtMatch2 ∧ s.phase = .match2 ∧ s.dflag = false ∧ s.pat = some 0b111#3) ∨
    (e = .noCommand ∧ s.phase = .turn ∧ s.rule = some 0#3) := by
  cases hr : s.pins.rst with
  | true => rw [step_of_rst hr] at h; cases h
  | false =>
    cases hp : s.phase with
    | start => rw [step_start hr hp] at h; cases h
    | sample =>
      rw [step_sample hr hp] at h
      exact absurd h (onNext_ne_fault (exists_sampleRow _ s) e)
    | match1 =>
      rw [step_match1 hr hp] at h
      split at h
      · cases h
      · split at h
        · next hq => cases h; exact .inl ⟨rfl, lat_of_pat_none hq, by simp⟩
        · cases h
    | r1Back => rw [step_r1Back hr hp] at h; cases h
    | r1Hold =>
      rw [step_r1Hold hr hp] at h
      exact absurd h (onNext_ne_fault (exists_holdRow _ _ s) e)
    | r1Resample =>
      rw [step_r1Resample hr hp] at h
      exact absurd h (onNext_ne_fault (exists_sampleRow _ s) e)
    | r1Check =>
      rw [step_r1Check hr hp] at h
      split at h
      · next hq => cases h; exact .inl ⟨rfl, lat_of_pat_none hq, by simp⟩
      · cases h
    | r1Stop => rw [step_r1Stop hr hp] at h; cases h
    | r1EndHold =>
      rw [step_r1EndHold hr hp] at h
      exact absurd h (onNext_ne_fault (exists_holdRow _ _ s) e)
    | match2 =>
      rw [step_match2 hr hp] at h
      split at h
      · cases h
      · split at h
        · next hq => cases h; exact .inl ⟨rfl, lat_of_pat_none hq, by simp⟩
        · next p hq =>
          rw [onNext_eq_fault] at h
          obtain ⟨he, hd, h1⟩ := match2Row_eq_fault h
          exact .inr (.inr (.inl ⟨he, rfl, hd, matchRule_eq_one_iff.mp h1 ▸ hq⟩))
    | r2Stop => rw [step_r2Stop hr hp] at h; cases h
    | r2Hold =>
      rw [step_r2Hold hr hp] at h
      exact absurd h (onNext_ne_fault (exists_holdRow _ _ s) e)
    | r2Fwd => rw [step_r2Fwd hr hp] at h; cases h
    | turn =>
      rw [step_turn hr hp] at h
      split at h
      · next hk => cases h; exact .inr (.inl ⟨rfl, hk, rfl⟩)
      · next k hk =>
        split at h
        · next hc => cases h; exact .inr (.inr (.inr ⟨rfl, rfl, cmdOf_eq_none_iff.mp hc ▸ hk⟩))
        · cases h
    | fwdTail => rw [step_fwdTail hr hp] at h; cases h

end Machine

/-- Settles O41: a wait is a next state, no row is refused, and each fault has its place. -/
theorem stepOutcomes : Obligations.StepOutcomes :=
  ⟨fun s hr he => ⟨_, step_of_not_enabled hr he, sameBlock_quiet_tick s⟩, step_ne_refused,
    fun s i => exec_ne_refused i s, fun _ _ => step_eq_fault⟩

namespace Machine

variable {s t u v w : State}

/-! ## NOMATCH (rule R76) -/

/-- The row that shows nomatch_o is P_MATCH2's, with DFLAG = 0 and the uncovered pattern. -/
theorem RowStep.noMatch_strobe_iff (h : RowStep s u) :
    u.strobes.noMatch = true ↔ s.phase = .match2 ∧ s.dflag = false ∧ s.pat = some 0b101#3 := by
  cases h with
  | noMatch hp hd hq => exact iff_of_true rfl ⟨hp, hd, hq⟩
  | match2Passed hp hd => simp [Strobes.low, hd]
  | match2Reacquire hp hd hq => simp [Strobes.low, hq]
  | match2Turn hp hd p hq h0 h5 => simp [Strobes.low, hq, h5]
  | waitSample hp => rcases hp with hp | hp <;> simp [Strobes.low, hp]
  | waitHold hp => rcases hp with hp | hp | hp <;> simp [Strobes.low, hp]
  | start hp | sampled hp | match1Passed hp | match1 hp | back hp | hold hp | resampled hp | check hp | stop hp
  | endHold hp | reacqStop hp | reacqHold hp | reacqForward hp | straight hp | turn hp | tail hp =>
    simp [Strobes.low, hp]

end Machine

/-- Settles O25: NOMATCH is one row, which writes RULE and shows the event and the strobe. -/
theorem noMatchIsAnObservableNoOp : Obligations.NoMatchIsAnObservableNoOp := by
  refine ⟨fun s hp hd => ?_, fun s hr hp hd hq => ⟨_, step_match2_noMatch hr hp hd hq, ?_⟩, fun s t hr h => ?_⟩
  · show entryStep 0#3 s = _
    rw [entryStep_match2 _ hp, match2Row_zero hd]; rfl
  · rfl
  · obtain ⟨u, hu, rfl⟩ := row_of_step hr h
    exact ⟨hu.noMatch_iff.symm.trans hu.noMatch_strobe_iff, hu.noMatch_strobe_iff⟩

namespace Machine

variable {s t u v w : State}

/-! ## Runs without a reset -/

theorem RowStep.inputs_eq (h : RowStep s u) : u.inputs = s.inputs := by
  cases h <;> simp

theorem step_inputs (h : step s = .next t) : t.inputs = s.inputs.tail := by
  cases hr : s.pins.rst with
  | true => rw [step_of_rst hr] at h; cases h; simp
  | false =>
    obtain ⟨u, hu, rfl⟩ := row_of_step hr h
    rw [State.tick_inputs, hu.inputs_eq]

/-- No reset in the next `n + 1` steps is none now and none in the `n` steps after it. -/
theorem noResetFor_succ_iff {n : Nat} : noResetFor (n + 1) s = true ↔
    s.pins.rst = false ∧ noResetFor n s.tick = true := by
  cases hx : s.inputs <;> simp [noResetFor, State.pins, hx, Pins.idle]

theorem rst_of_noResetFor {n : Nat} (hn : noResetFor (n + 1) s = true) : s.pins.rst = false :=
  (noResetFor_succ_iff.mp hn).1

theorem noResetFor_of_step {n : Nat} (hn : noResetFor (n + 1) s = true) (h : step s = .next t) :
    noResetFor n t = true := by
  rw [noResetFor, step_inputs h]
  exact (noResetFor_succ_iff.mp hn).2

/-- No reset in `n` steps is none in fewer. -/
theorem noResetFor_of_le {m n : Nat} (hmn : m ≤ n) (hn : noResetFor n s = true) : noResetFor m s = true := by
  have h := List.all_eq_true.mp hn
  exact List.all_eq_true.mpr fun p hp => h p ((List.take_sublist_take_left hmn).subset hp)

/-- After `n` of `n + 1` steps without a reset the next step is no reset either. -/
theorem rst_of_runFor {n : Nat} (hn : noResetFor (n + 1) s = true) (h : runFor n s = .next t) :
    t.pins.rst = false := by
  induction n generalizing s with
  | zero => cases h; exact rst_of_noResetFor hn
  | succ n ih =>
    obtain ⟨u, hu, ht⟩ := runFor_succ_eq_next.mp h
    exact ih (noResetFor_of_step hn hu) ht

/-- A run without a reset goes on by the step of the state it comes to. -/
theorem runFor_snoc {m n : Nat} (hn : noResetFor n s = true) (hm : m < n) (run : runFor m s = .next t)
    (h : t.pins.rst = false → step t = .next u) : runFor (m + 1) s = .next u :=
  runFor_succ_eq_next_last.mpr ⟨t, run, h (rst_of_runFor (noResetFor_of_le hm hn) run)⟩

/-! ## The action lists, run from their match step (rules R68 to R75) -/

/-- P_R1_RESAMPLE with the pins `x`, which deliver a triple. -/
theorem step_r1Resample_delivered {x : Pins} (hr : s.pins.rst = false) (hp : s.phase = .r1Resample)
    (hx : s.pins = x) (hv : x.smpValid = true) :
    step s = .next (((s.quiet.latch ⟨x.smpL, x.smpC, x.smpR⟩).emit
      (.sample x.smpL x.smpC x.smpR)).goto .r1Check).tick := by
  subst hx
  rw [step_r1Resample hr hp, sampleRow_of_valid _ hv, onNext_next]

end Machine

/-- Settles O50: four rows from P_MATCH1 to the re-check, and then the terminal branch or P_MATCH2. -/
theorem recoveryRunsItsActionList : Obligations.RecoveryRunsItsActionList := by
  intro s p0 p1 p2 p3 p4 p5 p6 p7 rest hin hn hp hd hq hv2 hv3
  have run1 := runFor_snoc hn (by decide) (runFor_zero s) fun hr => step_match1_allOn hr hp hd hq
  have run2 := runFor_snoc hn (by decide) run1 fun hr => step_r1Back hr rfl
  have run3 := runFor_snoc hn (by decide) run2 fun hr =>
    step_r1Hold_done hr rfl (by simpa [State.pins, hin] using hv2)
  have run4 := runFor_snoc hn (by decide) run3 fun hr =>
    step_r1Resample_delivered (x := p3) hr rfl (by simp [State.pins, hin]) hv3
  refine ⟨fun h7 hv6 => ?_, fun h7 => ?_⟩
  · have run5 := runFor_snoc hn (by decide) run4 fun hr => step_r1Check_allOn hr rfl (congrArg some h7)
    have run6 := runFor_snoc hn (by decide) run5 fun hr => step_r1Stop hr rfl
    have run7 := runFor_snoc hn (by decide) run6 fun hr =>
      step_r1EndHold_done hr rfl (by simpa [State.pins, hin] using hv6)
    have run8 := runFor_snoc hn (by decide) run7 fun hr => step_match2_of_dflag hr rfl rfl
    exact ⟨_, run8, rfl, rfl, rfl, rfl, rfl, rfl, rfl, by simp⟩
  · have run5 := runFor_snoc hn (by decide) run4 fun hr => step_r1Check_passed hr rfl rfl h7
    exact ⟨_, run5, rfl, hd, rfl, rfl, rfl, rfl, rfl, by simp⟩

/-- Settles O52: selection, STOP, the hold and FORWARD, none of which carries a duty pair. -/
theorem reacquireRunsItsActionList : Obligations.ReacquireRunsItsActionList := by
  intro s p0 p1 p2 p3 rest hin hn hp hd hq hv
  have run1 := runFor_snoc hn (by decide) (runFor_zero s) fun hr =>
    step_match2_of_rule hr hp hd hq (by decide) (by decide)
  have run2 := runFor_snoc hn (by decide) run1 fun hr => step_r2Stop hr rfl
  have run3 := runFor_snoc hn (by decide) run2 fun hr =>
    step_r2Hold_done hr rfl (by simpa [State.pins, hin] using hv)
  have run4 := runFor_snoc hn (by decide) run3 fun hr => step_r2Fwd hr rfl
  exact ⟨_, _, run2, rfl, rfl, rfl, hd, run4, rfl, rfl, rfl, rfl, rfl, rfl, rfl, by simp⟩

/-- Settles O53: selection and one ISSUE. -/
theorem straightRunsItsActionList : Obligations.StraightRunsItsActionList := by
  intro s hn hp hd hq
  have run1 := runFor_snoc hn (by decide) (runFor_zero s) fun hr =>
    step_match2_of_rule hr hp hd hq (by decide) (by decide)
  have run2 := runFor_snoc hn (by decide) run1 fun hr => step_turn_of_cmd hr rfl rfl rfl
  exact ⟨_, run2, rfl, rfl, rfl, rfl, rfl, rfl, rfl, rfl⟩

namespace Machine

variable {s : State}

/-- A rule 4 to 7 from its match step: after two steps the turn code with its duty pair, after three FORWARD with
the pair kept. -/
theorem runFor_turn_rule {p : Pat} {k : RuleNo} {tag : Tag} {d : DutyPair} (hn : noResetFor 3 s = true)
    (hp : s.phase = .match2) (hd : s.dflag = false) (hq : s.pat = some p) (hk : matchRule p false = k)
    (h4 : 4#3 ≤ k) (hc : cmdOf s.cfg k = some ⟨tag, some d⟩) :
    ∃ t u, runFor 2 s = .next t ∧ t.dir = enc s.cfg tag ∧ t.dutyL = d.l ∧ t.dutyR = d.r ∧ t.dflag = false ∧
      t.trace = s.trace ++ [.issue tag (some d)] ∧
      runFor 3 s = .next u ∧ u.phase = .start ∧ u.dflag = true ∧ u.rule = some k ∧
      u.dir = s.cfg.codeForward ∧ u.dutyL = d.l ∧ u.dutyR = d.r ∧ u.lat = s.lat ∧
      u.trace = s.trace ++ [.issue tag (some d), .issue .forward none] := by
  have hne : ∀ p : Pat, 4#3 ≤ matchRule p false →
      p ≠ 0b000#3 ∧ p ≠ 0b101#3 ∧ p ≠ 0b111#3 ∧ matchRule p false ≠ 3#3 := by decide
  subst hk
  obtain ⟨h0, h5, h7, h3⟩ := hne p h4
  have run1 := runFor_snoc hn (by decide) (runFor_zero s) fun hr => step_match2_of_rule hr hp hd hq h5 h7
  rw [if_neg h0] at run1
  have run2 := runFor_snoc hn (by decide) run1 fun hr => step_turn_of_cmd hr rfl rfl hc
  rw [if_neg h3] at run2
  have run3 := runFor_snoc hn (by decide) run2 fun hr => step_fwdTail hr rfl
  exact ⟨_, _, run2, rfl, rfl, rfl, hd, rfl, run3, rfl, rfl, rfl, rfl, rfl, rfl, rfl, by simp⟩

end Machine

/-- Settles O54: the four turn rules, each with its command. -/
theorem turnRulesRunTheirActionLists : Obligations.TurnRulesRunTheirActionLists := by
  intro s p k tag code d h hn hp hd hq
  simp only [List.mem_cons, List.not_mem_nil, or_false, Prod.mk.injEq] at h
  rcases h with ⟨rfl, rfl, rfl, rfl, rfl⟩ | ⟨rfl, rfl, rfl, rfl, rfl⟩ | ⟨rfl, rfl, rfl, rfl, rfl⟩ |
    ⟨rfl, rfl, rfl, rfl, rfl⟩
  all_goals exact runFor_turn_rule hn hp hd hq rfl (by decide) rfl

namespace Machine

theorem drives_iff {s : State} {code : Nibble} {d : DutyPair} :
    s.drives code d = true ↔ s.dir = code ∧ s.dutyL = d.l ∧ s.dutyR = d.r := by
  simp [State.drives, and_assoc]

end Machine

/-- Settles O51: the failed re-check goes on to P_MATCH2, and that row reads the re-sampled pattern; BACK's outputs
stand since the phase invariant has them at the re-check. -/
theorem fallThroughUsesTheResample : Obligations.FallThroughUsesTheResample := by
  intro s q hn hi hp hq
  obtain ⟨⟨hd, -⟩, hout⟩ : (s.dflag = false ∧ s.lat.isSome = true) ∧
      s.drives s.cfg.codeBack s.cfg.dutyBack = true := by simpa [phaseInv, hp] using hi
  obtain ⟨hdir, hl, hr⟩ := drives_iff.mp hout
  refine ⟨?_, fun h7 => ?_⟩
  · rintro rfl
    exact ⟨_, runFor_snoc hn (by decide) (runFor_zero s) fun hr => step_r1Check_allOn hr hp hq, rfl⟩
  · have run1 := runFor_snoc hn (by decide) (runFor_zero s) fun hr => step_r1Check_passed hr hp hq h7
    by_cases h5 : q = 0b101#3
    · subst h5
      have run2 := runFor_snoc hn (by decide) run1 fun hr => step_match2_noMatch hr rfl hd hq
      exact ⟨_, run2, rfl, hd, hdir, hl, hr, rfl, rfl⟩
    · have run2 := runFor_snoc hn (by decide) run1 fun hr => step_match2_of_rule hr rfl hd hq h5 h7
      refine ⟨_, run2, rfl, hd, hdir, hl, hr, ?_, ?_⟩ <;> simp [h5]

namespace Machine

variable {s t u v w : State}

/-! ## Firing (rule R66) -/

/-- DFLAG after a row: cleared by P_START, set by the row that fires, kept by every other. -/
theorem RowStep.dflag_eq_fires (h : RowStep s u) :
    u.dflag = if s.phase = .start then false else s.fires || s.dflag := by
  rw [h.dflag_eq]
  cases hp : s.phase <;> simp [State.fires, hp]

theorem dflag_of_step (hr : s.pins.rst = false) (h : step s = .next t) :
    t.dflag = if s.phase = .start then false else s.fires || s.dflag := by
  obtain ⟨u, hu, rfl⟩ := row_of_step hr h
  exact hu.dflag_eq_fires

theorem fires_of_start (hp : s.phase = .start) : s.fires = false := by simp [State.fires, hp]

/-- Under the phase invariant a step that fires has DFLAG = 0 before it. -/
theorem dflag_of_fires (hi : phaseInv s = true) (hf : s.fires = true) : s.dflag = false := by
  cases hp : s.phase with
  | r1EndHold | r2Fwd | turn | fwdTail => simp_all [phaseInv]
  | start | sample | match1 | r1Back | r1Hold | r1Resample | r1Check | r1Stop | match2 | r2Stop | r2Hold =>
    simp [State.fires, hp] at hf

/-- Step number `m` of a run fires exactly when the state it is taken from does. -/
theorem firesAt_iff {m : Nat} (h : runFor m s = .next t) (hr : t.pins.rst = false) :
    FiresAt m s ↔ t.fires = true := by
  refine ⟨fun ⟨u, hu, _, hf⟩ => ?_, fun hf => ⟨t, h, hr, hf⟩⟩
  obtain rfl := Host.Outcome.next.inj (h.symm.trans hu)
  exact hf

end Machine

/-- Settles O57: the flag after each row, and the one or two rows that a rule in its turn, or rule 2 at the end of its
hold, still has to take. -/
theorem firingSetsTheFlag : Obligations.FiringSetsTheFlag := by
  refine ⟨fun s t hr h => dflag_of_step hr h, fun s hp => by simp [State.fires, hp], fun s k hp hk h3 hn => ?_,
    fun s hp hv hn => ?_⟩
  · have hr := rst_of_noResetFor hn
    refine ⟨?_, fun hne => ?_⟩
    · rintro rfl
      exact (firesAt_iff (runFor_zero s) hr).mpr (by simp [State.fires, hp, hk])
    · obtain ⟨tag, d, hc⟩ := cmdOf_of_three_le s.cfg h3
      have run := runFor_snoc hn (by decide) (runFor_zero s) fun hr => step_turn_of_cmd hr hp hk hc
      rw [if_neg (show k ≠ 3#3 from hne)] at run
      exact (firesAt_iff run (rst_of_runFor hn run)).mpr rfl
  · have run := runFor_snoc hn (by decide) (runFor_zero s) fun hr => step_r2Hold_done hr hp hv
    exact (firesAt_iff run (rst_of_runFor hn run)).mpr rfl

namespace Machine

variable {s t u v w : State}

/-! ## A pass, step by step (rules R91, R102) -/

/-- `t` is the state after `n` steps of a pass from `s`: the first step is P_START's, none is a reset, and no later
step is taken from P_START. -/
inductive InPass (s : State) : Nat → State → Prop
  | first {t : State} (hp : s.phase = .start) (hr : s.pins.rst = false) (h : step s = .next t) : InPass s 1 t
  | later {n : Nat} {t u : State} (hin : InPass s n t) (hp : t.phase ≠ .start) (hr : t.pins.rst = false)
      (h : step t = .next u) : InPass s (n + 1) u

/-- A run from P_START that meets no reset and does not come back to P_START before its end is in one pass. -/
theorem inPass_of_runFor {n : Nat} (hp : s.phase = .start) (h0 : 0 < n) (hn : noResetFor n s = true)
    (run : runFor n s = .next t)
    (haway : ∀ m u, 0 < m → m < n → runFor m s = .next u → u.phase ≠ .start) : InPass s n t := by
  induction n generalizing t with
  | zero => exact absurd h0 (Nat.lt_irrefl 0)
  | succ n ih =>
    obtain ⟨u, hu, ht⟩ := runFor_succ_eq_next_last.mp run
    have hr := rst_of_runFor hn hu
    cases n with
    | zero => cases hu; exact .first hp hr ht
    | succ m =>
      have hin := ih m.succ_pos (noResetFor_of_le (Nat.le_succ _) hn) hu fun i v hi hin =>
        haway i v hi (Nat.lt_succ_of_lt hin)
      exact .later hin (haway _ u m.succ_pos (Nat.lt_succ_self _) hu) hr ht

theorem InPass.runFor_eq {n : Nat} (h : InPass s n t) : runFor n s = .next t := by
  induction h with
  | first _ _ h => exact runFor_succ_eq_next_last.mpr ⟨s, rfl, h⟩
  | later _ _ _ h ih => exact runFor_succ_eq_next_last.mpr ⟨_, ih, h⟩

/-- Every state that a complete pass comes to, its last one included, is in the pass. -/
theorem CompletePass.inPass {m n : Nat} (h : CompletePass n s t) (h0 : 0 < m) (hm : m ≤ n)
    (run : runFor m s = .next u) : InPass s m u := by
  obtain ⟨hp, -, hn, -, -, haway⟩ := h
  exact inPass_of_runFor hp h0 (noResetFor_of_le hm hn) run fun i v hi him => haway i v hi (him.trans_le hm)

/-- In a pass DFLAG is 1 exactly when one of the steps so far has fired a rule. -/
theorem InPass.dflag_iff {n : Nat} (h : InPass s n t) : t.dflag = true ↔ ∃ i, i < n ∧ FiresAt i s := by
  induction h with
  | first hp hr h =>
    rw [dflag_of_step hr h, if_pos hp]
    refine iff_of_false (by simp) ?_
    rintro ⟨i, hi, hf⟩
    obtain rfl := Nat.lt_one_iff.mp hi
    simp [firesAt_iff (runFor_zero s) hr, fires_of_start hp] at hf
  | later hin hp hr h ih =>
    rw [dflag_of_step hr h, if_neg hp, Bool.or_eq_true, ih, ← firesAt_iff hin.runFor_eq hr]
    simp only [Nat.lt_succ_iff_lt_or_eq, or_and_right, exists_or, exists_eq_left, or_comm]

end Machine

/-- Settles O58: the first firing sets DFLAG, which stays until the next P_START, and the phase invariant lets no row
fire with DFLAG = 1. -/
theorem atMostOneRuleFires : Obligations.AtMostOneRuleFires := by
  intro s t n hpass
  obtain ⟨hp, h0, -, run, -⟩ := id hpass
  have earlier {i j : Nat} (hj : j < n) (hij : i < j) (hi : FiresAt i s) : ¬ FiresAt j s := by
    rintro ⟨u, hu, -, hf⟩
    have hin := hpass.inPass (i.zero_le.trans_lt hij) hj.le hu
    have hinv : phaseInv u = true :=
      runFor_keeps (P := fun v => phaseInv v = true) step_keeps_phaseInv (phaseInv_of_start hp) hu
    have hd : u.dflag = true := hin.dflag_iff.mpr ⟨i, hij, hi⟩
    exact absurd hd (by simp [dflag_of_fires hinv hf])
  refine ⟨fun i j hi hj fi fj => ?_, (hpass.inPass h0 le_rfl run).dflag_iff⟩
  rcases lt_trichotomy i j with hij | hij | hij
  · exact absurd fj (earlier hj hij fi)
  · exact hij
  · exact absurd fi (earlier hi hij fj)

namespace Machine

variable {s t u v w : State}

/-! ## What a pass has done so far (rules R68 to R76, R101)

The block of each point of a pass, written out from the state that the pass starts in and the readings it took. The
environment's part and the strobes are left open: a state is at a point when it has the point's block. -/

/-- The block at P_MATCH2 with DFLAG = 0, where the rules 2 to 7 are tried against the readings `y`: the pass's own
sample, or the re-sample that rule 1's re-check failed on (rule R69). -/
inductive TriedAgainst (s : State) : Readings → State → Prop
  | sampled (x : Readings) (hx : classify s.cfg x ≠ 0b111#3) :
    TriedAgainst s x { s with phase := .match2, dflag := false, lat := some x,
                              trace := s.trace ++ [.pass, sampleEvent x] }
  | resampled (x y : Readings) (hx : classify s.cfg x = 0b111#3) (hy : classify s.cfg y ≠ 0b111#3) :
    TriedAgainst s y { s with phase := .match2, dflag := false, lat := some y, dir := s.cfg.codeBack,
                              dutyL := s.cfg.dutyBack.l, dutyR := s.cfg.dutyBack.r,
                              trace := s.trace ++ recoveryEvents s.cfg x y }

/-- The block of a pass under way, at each phase that the pass comes to. -/
inductive PassPoint (s : State) : State → Prop
  | sample : PassPoint s { s with phase := .sample, dflag := false, trace := s.trace ++ [.pass] }
  | match1 (x : Readings) : PassPoint s
      { s with phase := .match1, dflag := false, lat := some x, trace := s.trace ++ [.pass, sampleEvent x] }
  | r1Back (x : Readings) (hx : classify s.cfg x = 0b111#3) : PassPoint s
      { s with phase := .r1Back, dflag := false, lat := some x, trace := s.trace ++ [.pass, sampleEvent x] }
  | r1Hold (x : Readings) (hx : classify s.cfg x = 0b111#3) : PassPoint s
      { s with phase := .r1Hold, dflag := false, lat := some x, dir := s.cfg.codeBack,
               dutyL := s.cfg.dutyBack.l, dutyR := s.cfg.dutyBack.r,
               trace := s.trace ++ [.pass, sampleEvent x, .issue .back (some s.cfg.dutyBack)] }
  | r1Resample (x : Readings) (hx : classify s.cfg x = 0b111#3) : PassPoint s
      { s with phase := .r1Resample, dflag := false, lat := some x, dir := s.cfg.codeBack,
               dutyL := s.cfg.dutyBack.l, dutyR := s.cfg.dutyBack.r,
               trace := s.trace ++
                 [.pass, sampleEvent x, .issue .back (some s.cfg.dutyBack), .hold s.cfg.tBack] }
  | r1Check (x y : Readings) (hx : classify s.cfg x = 0b111#3) : PassPoint s
      { s with phase := .r1Check, dflag := false, lat := some y, dir := s.cfg.codeBack,
               dutyL := s.cfg.dutyBack.l, dutyR := s.cfg.dutyBack.r,
               trace := s.trace ++ recoveryEvents s.cfg x y }
  | r1Stop (x y : Readings) (hx : classify s.cfg x = 0b111#3) (hy : classify s.cfg y = 0b111#3) : PassPoint s
      { s with phase := .r1Stop, dflag := false, lat := some y, dir := s.cfg.codeBack,
               dutyL := s.cfg.dutyBack.l, dutyR := s.cfg.dutyBack.r,
               trace := s.trace ++ recoveryEvents s.cfg x y }
  | r1EndHold (x y : Readings) (hx : classify s.cfg x = 0b111#3) (hy : classify s.cfg y = 0b111#3) : PassPoint s
      { s with phase := .r1EndHold, dflag := false, lat := some y, dir := s.cfg.codeStop,
               dutyL := s.cfg.dutyBack.l, dutyR := s.cfg.dutyBack.r,
               trace := s.trace ++ (recoveryEvents s.cfg x y ++ [.issue .stop none]) }
  | r1Done (x y : Readings) (hx : classify s.cfg x = 0b111#3) (hy : classify s.cfg y = 0b111#3) : PassPoint s
      { s with phase := .match2, dflag := true, lat := some y, dir := s.cfg.codeStop,
               dutyL := s.cfg.dutyBack.l, dutyR := s.cfg.dutyBack.r,
               trace := s.trace ++ (recoveryEvents s.cfg x y ++ [.issue .stop none, .hold s.cfg.tEnd]) }
  | match2 (y : Readings) (v : State) (hv : TriedAgainst s y v) : PassPoint s v
  | r2Stop (y : Readings) (v : State) (hv : TriedAgainst s y v) (hy : classify s.cfg y = 0b000#3) : PassPoint s
      { v with phase := .r2Stop, rule := some 2#3 }
  | r2Hold (y : Readings) (v : State) (hv : TriedAgainst s y v) (hy : classify s.cfg y = 0b000#3) : PassPoint s
      { v with phase := .r2Hold, rule := some 2#3, dir := s.cfg.codeStop,
               trace := v.trace ++ [.issue .stop none] }
  | r2Fwd (y : Readings) (v : State) (hv : TriedAgainst s y v) (hy : classify s.cfg y = 0b000#3) : PassPoint s
      { v with phase := .r2Fwd, rule := some 2#3, dir := s.cfg.codeStop,
               trace := v.trace ++ [.issue .stop none, .hold s.cfg.tReacq] }
  | turn (y : Readings) (v : State) (hv : TriedAgainst s y v) (h5 : classify s.cfg y ≠ 0b101#3)
      (h3 : 3#3 ≤ matchRule (classify s.cfg y) false) : PassPoint s
      { v with phase := .turn, rule := some (matchRule (classify s.cfg y) false) }
  | fwdTail (y : Readings) (v : State) (hv : TriedAgainst s y v) (h5 : classify s.cfg y ≠ 0b101#3)
      (tag : Tag) (d : DutyPair) (h4 : 4#3 ≤ matchRule (classify s.cfg y) false)
      (hc : cmdOf s.cfg (matchRule (classify s.cfg y) false) = some ⟨tag, some d⟩) : PassPoint s
      { v with phase := .fwdTail, rule := some (matchRule (classify s.cfg y) false), dir := enc s.cfg tag,
               dutyL := d.l, dutyR := d.r, trace := v.trace ++ [.issue tag (some d)] }

/-- The block at the end of a pass: rule 1 ran to its end of course, no rule covered the pattern, or one of the rules
2 to 7 fired. -/
inductive PassEnd (s : State) : State → Prop
  | terminal (x y : Readings) (hx : classify s.cfg x = 0b111#3) (hy : classify s.cfg y = 0b111#3) : PassEnd s
      { s with phase := .start, dflag := true, lat := some y, dir := s.cfg.codeStop,
               dutyL := s.cfg.dutyBack.l, dutyR := s.cfg.dutyBack.r,
               trace := s.trace ++ (recoveryEvents s.cfg x y ++ [.issue .stop none, .hold s.cfg.tEnd]) }
  | uncovered (y : Readings) (v : State) (hv : TriedAgainst s y v) (h5 : classify s.cfg y = 0b101#3) : PassEnd s
      { v with phase := .start, rule := some 0#3, trace := v.trace ++ [.noMatch] }
  | fired (y : Readings) (v : State) (hv : TriedAgainst s y v) (h5 : classify s.cfg y ≠ 0b101#3) : PassEnd s
      { v with phase := .start, dflag := true, rule := some (matchRule (classify s.cfg y) false),
               dir := s.cfg.codeForward,
               dutyL := (dutyAfterRule s.cfg (matchRule (classify s.cfg y) false) v.duty).l,
               dutyR := (dutyAfterRule s.cfg (matchRule (classify s.cfg y) false) v.duty).r,
               trace := v.trace ++ ruleEvents s.cfg (matchRule (classify s.cfg y) false) }

theorem TriedAgainst.spec {y : Readings} (h : TriedAgainst s y v) : v.phase = .match2 ∧ v.dflag = false ∧
    v.lat = some y ∧ v.cfg = s.cfg ∧ classify s.cfg y ≠ 0b111#3 := by
  cases h with
  | sampled x hx => exact ⟨rfl, rfl, rfl, rfl, hx⟩
  | resampled x y hx hy => exact ⟨rfl, rfl, rfl, rfl, hy⟩

theorem PassPoint.phase_ne_start (h : PassPoint s v) : v.phase ≠ .start := by
  cases h with
  | match2 y v hv => rw [hv.spec.1]; decide
  | _ => exact nofun

theorem PassEnd.phase_eq (h : PassEnd s v) : v.phase = .start := by
  cases h <;> rfl

/-- The events of a rule 4 to 7 are its command and FORWARD, and it leaves the command's duty pair. -/
theorem ruleEvents_of_four_le {c : Config} {k : RuleNo} {tag : Tag} {d : DutyPair} (h4 : 4#3 ≤ k)
    (hc : cmdOf c k = some ⟨tag, some d⟩) :
    ruleEvents c k = [.issue tag (some d), .issue .forward none] ∧ ∀ b, dutyAfterRule c k b = d := by
  rcases ruleNo_cases k with rfl | rfl | rfl | rfl | rfl | rfl | rfl | rfl
  iterate 4 exact absurd h4 (by decide)
  all_goals cases hc; exact ⟨rfl, fun _ => rfl⟩

/-! ## Blocks and environments -/

/-- The block of `v` with the strobes and the environment's part of `e`. -/
def State.under (v e : State) : State :=
  { v with strobes := e.strobes, portHi := e.portHi, inputs := e.inputs }

/-! The registers of the block, and what depends on them, are `v`'s; the rest is `e`'s. -/

@[simp] theorem State.under_phase (v e : State) : (v.under e).phase = v.phase := rfl
@[simp] theorem State.under_lat (v e : State) : (v.under e).lat = v.lat := rfl
@[simp] theorem State.under_dflag (v e : State) : (v.under e).dflag = v.dflag := rfl
@[simp] theorem State.under_rule (v e : State) : (v.under e).rule = v.rule := rfl
@[simp] theorem State.under_dir (v e : State) : (v.under e).dir = v.dir := rfl
@[simp] theorem State.under_dutyL (v e : State) : (v.under e).dutyL = v.dutyL := rfl
@[simp] theorem State.under_dutyR (v e : State) : (v.under e).dutyR = v.dutyR := rfl
@[simp] theorem State.under_trace (v e : State) : (v.under e).trace = v.trace := rfl
@[simp] theorem State.under_cfg (v e : State) : (v.under e).cfg = v.cfg := rfl
@[simp] theorem State.under_pat (v e : State) : (v.under e).pat = v.pat := rfl
@[simp] theorem State.under_strobes (v e : State) : (v.under e).strobes = e.strobes := rfl
@[simp] theorem State.under_portHi (v e : State) : (v.under e).portHi = e.portHi := rfl
@[simp] theorem State.under_inputs (v e : State) : (v.under e).inputs = e.inputs := rfl
@[simp] theorem State.under_pins (v e : State) : (v.under e).pins = e.pins := rfl

theorem eq_under_of_sameBlock (h : t.sameBlock v = true) : t = v.under t := by
  simp only [State.sameBlock, Bool.and_eq_true, beq_iff_eq] at h
  obtain ⟨⟨⟨⟨⟨⟨⟨⟨h1, h2⟩, h3⟩, h4⟩, h5⟩, h6⟩, h7⟩, h8⟩, h9⟩ := h
  exact State.ext h1 h2 h3 h4 h5 h6 h7 rfl h8 rfl h9 rfl

/-- A sample phase is enabled by a delivery only. -/
theorem smpValid_of_enabled (hq : smpReq s.phase = true) (he : enabled s = true) : s.pins.smpValid = true := by
  simpa [enabled, hq] using he

/-- A hold phase is enabled by the end of the hold only. -/
theorem holdDone_of_enabled (hq : holdReq s.phase = true) (he : enabled s = true) : s.pins.holdDone = true := by
  have hs : smpReq s.phase = false := by
    rcases holdReq_eq_true_iff.mp hq with hp | hp | hp <;> simp [hp, smpReq]
  simpa [enabled, hs, hq] using he

end Machine

namespace Machine

variable {s t u v w : State}

/-! ## Every enabled step goes from one point to the next -/

/-- The step of `t` answers the block of a point that satisfies `P`, or of the end of the pass. -/
def Advances (s t : State) : Prop :=
  ∃ u w, step t = .next u ∧ (PassPoint s w ∨ PassEnd s w) ∧ u.sameBlock w = true

theorem TriedAgainst.under_pat {y : Readings} (h : TriedAgainst s y v) (e : State) :
    (v.under e).pat = some (classify s.cfg y) := by
  obtain ⟨-, -, hl, hc, -⟩ := h.spec
  show v.lat.map (classify v.cfg) = _
  rw [hl, hc]; rfl

/-- From P_MATCH2 with DFLAG = 0: the pass ends with NOMATCH, or a rule 2 to 7 is selected. -/
theorem TriedAgainst.advances {y : Readings} (hv : TriedAgainst s y v) {e : State}
    (hr : (v.under e).pins.rst = false) : Advances s (v.under e) := by
  obtain ⟨hp, hd, -, -, h7⟩ := hv.spec
  have hq := hv.under_pat e
  by_cases h5 : classify s.cfg y = 0b101#3
  · exact ⟨_, _, step_match2_noMatch hr hp hd (h5 ▸ hq), .inr (.uncovered y v hv h5),
      by simp [State.sameBlock]⟩
  · by_cases h0 : classify s.cfg y = 0b000#3
    · exact ⟨_, _, step_match2_of_rule hr hp hd hq h5 h7, .inl (.r2Stop y v hv h0),
        by simp [State.sameBlock, h0, matchRule_eq_two_iff]⟩
    · exact ⟨_, _, step_match2_of_rule hr hp hd hq h5 h7, .inl (.turn y v hv h5 (three_le_matchRule h0 h5 h7)),
        by simp [State.sameBlock, h0]⟩

/-- Every enabled step of a pass under way goes on to the next point of the pass, or ends it. -/
theorem PassPoint.advances (hv : PassPoint s v) {e : State} (hr : (v.under e).pins.rst = false)
    (he : enabled (v.under e) = true) : Advances s (v.under e) := by
  cases hv with
  | sample =>
    exact ⟨_, _, step_of_delivery (.inl rfl) hr (smpValid_of_enabled rfl he),
      .inl (.match1 ⟨e.pins.smpL, e.pins.smpC, e.pins.smpR⟩),
      by simp [State.sameBlock, sampleEvent]⟩
  | match1 x =>
    by_cases h7 : classify s.cfg x = 0b111#3
    · exact ⟨_, _, step_match1_allOn hr rfl rfl (congrArg some h7), .inl (.r1Back x h7),
        by simp [State.sameBlock]⟩
    · exact ⟨_, _, step_match1_passed hr rfl rfl rfl h7, .inl (.match2 x _ (.sampled x h7)),
        by simp [State.sameBlock]⟩
  | r1Back x hx =>
    exact ⟨_, _, step_r1Back hr rfl, .inl (.r1Hold x hx), by simp [State.sameBlock, enc]⟩
  | r1Hold x hx =>
    exact ⟨_, _, step_r1Hold_done hr rfl (holdDone_of_enabled rfl he), .inl (.r1Resample x hx),
      by simp [State.sameBlock]⟩
  | r1Resample x hx =>
    exact ⟨_, _, step_r1Resample_delivered hr rfl rfl (smpValid_of_enabled rfl he),
      .inl (.r1Check x ⟨e.pins.smpL, e.pins.smpC, e.pins.smpR⟩ hx),
      by simp [State.sameBlock, recoveryEvents, sampleEvent]⟩
  | r1Check x y hx =>
    by_cases h7 : classify s.cfg y = 0b111#3
    · exact ⟨_, _, step_r1Check_allOn hr rfl (congrArg some h7), .inl (.r1Stop x y hx h7),
        by simp [State.sameBlock]⟩
    · exact ⟨_, _, step_r1Check_passed hr rfl rfl h7, .inl (.match2 y _ (.resampled x y hx h7)),
        by simp [State.sameBlock]⟩
  | r1Stop x y hx hy =>
    exact ⟨_, _, step_r1Stop hr rfl, .inl (.r1EndHold x y hx hy), by simp [State.sameBlock, enc]⟩
  | r1EndHold x y hx hy =>
    exact ⟨_, _, step_r1EndHold_done hr rfl (holdDone_of_enabled rfl he), .inl (.r1Done x y hx hy),
      by simp [State.sameBlock]⟩
  | r1Done x y hx hy =>
    exact ⟨_, _, step_match2_of_dflag hr rfl rfl, .inr (.terminal x y hx hy),
      by simp [State.sameBlock]⟩
  | match2 y v hv => exact hv.advances hr
  | r2Stop y v hv hy =>
    obtain ⟨-, -, -, hc, -⟩ := hv.spec
    exact ⟨_, _, step_r2Stop hr rfl, .inl (.r2Hold y v hv hy), by simp [State.sameBlock, enc, hc]⟩
  | r2Hold y v hv hy =>
    obtain ⟨-, -, -, hc, -⟩ := hv.spec
    exact ⟨_, _, step_r2Hold_done hr rfl (holdDone_of_enabled rfl he), .inl (.r2Fwd y v hv hy),
      by simp [State.sameBlock, hc]⟩
  | r2Fwd y v hv hy =>
    obtain ⟨-, -, -, hc, -⟩ := hv.spec
    have h2 : matchRule (classify s.cfg y) false = 2#3 := matchRule_eq_two_iff.mpr hy
    exact ⟨_, _, step_r2Fwd hr rfl, .inr (.fired y v hv (by rw [hy]; decide)),
      by simp [State.sameBlock, enc, hc, h2, dutyAfterRule, ruleEvents, State.duty]⟩
  | turn y v hv h5 h3 =>
    obtain ⟨-, -, -, hc, -⟩ := hv.spec
    by_cases hk : matchRule (classify s.cfg y) false = 3#3
    · have hcmd : cmdOf v.cfg (matchRule (classify s.cfg y) false) =
          some ⟨.forward, some s.cfg.dutyForward⟩ := by rw [hk, hc]; rfl
      exact ⟨_, _, step_turn_of_cmd hr rfl rfl hcmd, .inr (.fired y v hv h5),
        by simp [State.sameBlock, enc, hc, hk, dutyAfterRule, ruleEvents]⟩
    · have h34 : ∀ j : RuleNo, 3#3 ≤ j → j ≠ 3#3 → 4#3 ≤ j := by decide
      obtain ⟨tag, d, hcmd⟩ := cmdOf_of_three_le s.cfg h3
      have hcmd' : cmdOf v.cfg (matchRule (classify s.cfg y) false) = some ⟨tag, some d⟩ := hc.symm ▸ hcmd
      exact ⟨_, _, step_turn_of_cmd hr rfl rfl hcmd', .inl (.fwdTail y v hv h5 tag d (h34 _ h3 hk) hcmd),
        by simp [State.sameBlock, hk, hc]⟩
  | fwdTail y v hv h5 tag d h4 hcmd =>
    obtain ⟨-, -, -, hc, -⟩ := hv.spec
    obtain ⟨hev, hduty⟩ := ruleEvents_of_four_le h4 hcmd
    exact ⟨_, _, step_fwdTail hr rfl, .inr (.fired y v hv h5),
      by simp [State.sameBlock, enc, hc, hev, hduty]⟩

/-- Every state of a pass has the block of a point of the pass, or of its end. -/
theorem InPass.exists_point {n : Nat} (h : InPass s n t) :
    ∃ v, (PassPoint s v ∨ PassEnd s v) ∧ t.sameBlock v = true := by
  induction h with
  | first hp hr h =>
    rw [step_start hr hp] at h
    cases h
    exact ⟨_, .inl .sample, by simp [State.sameBlock]⟩
  | later hin hp hr h ih =>
    obtain ⟨v, hv | hv, hsame⟩ := ih
    · rw [eq_under_of_sameBlock hsame] at hr h
      cases he : enabled (v.under _) with
      | true =>
        obtain ⟨u, w, hu, hw, hs⟩ := hv.advances hr he
        obtain rfl := Host.Outcome.next.inj (hu.symm.trans h)
        exact ⟨w, hw, hs⟩
      | false =>
        obtain rfl := Host.Outcome.next.inj ((step_of_not_enabled hr he).symm.trans h)
        exact ⟨v, .inl hv, sameBlock_refl v⟩
    · exact absurd ((phase_eq_of_sameBlock hsame).symm.trans hv.phase_eq) hp

/-- A complete pass leaves the block of one of the three ends. -/
theorem CompletePass.exists_end {n : Nat} (h : CompletePass n s t) : ∃ v, PassEnd s v ∧ t.sameBlock v = true := by
  obtain ⟨-, h0, -, run, hp, -⟩ := id h
  obtain ⟨v, hv | hv, hsame⟩ := (h.inPass h0 le_rfl run).exists_point
  · exact absurd ((phase_eq_of_sameBlock hsame).trans hp) hv.phase_ne_start
  · exact ⟨v, hv, hsame⟩

theorem plainPat_of_ne {p : Pat} (h7 : p ≠ 0b111#3) (h5 : p ≠ 0b101#3) : plainPat p = true := by
  simp [plainPat, h7, h5]

end Machine

/-- Settles O59: the three ends of a pass, the second and the third after the pass's own sample or after a failed
re-check. -/
theorem outputsAtTheEndOfAPass : Obligations.OutputsAtTheEndOfAPass := by
  intro s t n hpass
  obtain ⟨v, hv, hsame⟩ := hpass.exists_end
  rw [eq_under_of_sameBlock hsame]
  cases hv with
  | terminal x y hx hy =>
    exact ⟨3, _, rfl, .terminal x y hx hy, nofun, nofun, fun _ => ⟨rfl, rfl, rfl, congrArg some hy, rfl⟩,
      nofun, nofun⟩
  | uncovered y v hv h5 =>
    cases hv with
    | sampled x hx =>
      exact ⟨2, _, List.append_assoc _ _ _, .uncovered _ h5, nofun,
        fun _ => ⟨rfl, rfl, rfl, congrArg some h5, rfl⟩, nofun, nofun, nofun⟩
    | resampled x y hx hy =>
      exact ⟨5, _, List.append_assoc _ _ _, .recoveredUncovered x _ hx h5, nofun, nofun, nofun, nofun,
        fun _ => ⟨rfl, rfl, rfl, congrArg some h5, rfl⟩⟩
  | fired y v hv h5 =>
    cases hv with
    | sampled x hx =>
      have hplain := plainPat_of_ne hx h5
      exact ⟨1, _, List.append_assoc _ _ _, .rule _ hplain,
        fun _ => ⟨rfl, rfl, _, rfl, hplain, rfl, by simp [State.duty]⟩, nofun, nofun, nofun, nofun⟩
    | resampled x y hx hy =>
      have hplain := plainPat_of_ne hy h5
      exact ⟨4, _, List.append_assoc _ _ _, .recovered x _ hx hplain, nofun, nofun, nofun,
        fun _ => ⟨rfl, rfl, _, rfl, hplain, rfl, by simp [State.duty]⟩, nofun⟩

end Sys2Proof
end

section
/-! PROOF. The direction and duty encoder: its codes (rule R77), the ISSUE step (rule R78), the two forms in which a
command runs (rules R80 to R86), which phase and which rule issues each command, and that a duty pair is written with
its code only (rules R79, R121). -/

namespace Sys2Proof

open Sys2Proof.Machine

namespace Machine

variable {s t u : State}

/-! ## The encoder (rules R50, R77) -/

/-- Each of the seven legal codes is the code of a tag, under an accepted record. -/
theorem exists_tag_of_legalDir4 {c : Config} (hc : c.wf = true) {code : Nibble} (h : legalDir4 code = true) :
    ∃ tag, enc c tag = code := by
  obtain ⟨hstop, hforward, hleft, hright, hsoftRight, hsoftLeft, hback⟩ := c.wf_iff.mp hc
  simp only [legalDir4, Bool.or_eq_true, decide_eq_true_eq, or_assoc] at h
  rcases h with rfl | rfl | rfl | rfl | rfl | rfl | rfl
  exacts [⟨.stop, hstop⟩, ⟨.softRight, hsoftRight⟩, ⟨.softLeft, hsoftLeft⟩, ⟨.left, hleft⟩,
    ⟨.forward, hforward⟩, ⟨.back, hback⟩, ⟨.right, hright⟩]

/-- The encoder's range is the set of the legal codes. -/
theorem legalDir4_iff_exists_tag {c : Config} (hc : c.wf = true) (code : Nibble) :
    legalDir4 code = true ↔ ∃ tag, enc c tag = code :=
  ⟨exists_tag_of_legalDir4 hc, fun ⟨tag, h⟩ => h ▸ legalDir4_enc hc tag⟩

/-! ## ISSUE (rule R78) -/

/-- ISSUE with a duty pair, as a whole state. -/
theorem State.issue_some (s : State) (tag : Tag) (d : DutyPair) :
    s.issue tag (some d) =
      { s with dir := enc s.cfg tag, dutyL := d.l, dutyR := d.r, strobes := ⟨true, true, false⟩,
               trace := s.trace ++ [.issue tag (some d)] } := rfl

/-- The direction-only ISSUE, as a whole state: the duty pair stays. -/
theorem State.issue_none (s : State) (tag : Tag) :
    s.issue tag none =
      { s with dir := enc s.cfg tag, strobes := ⟨true, false, false⟩,
               trace := s.trace ++ [.issue tag none] } := rfl

/-! ## The seven commands (rules R80 to R86) -/

/-- A command that carries a duty pair in the present phase writes its code and the pair. -/
theorem exec_tag_instr_of_duty {tag : Tag} {d : DutyPair} (h : dutyOf s.cfg tag s.phase = some d) :
    exec tag.instr s =
      .next { s with dir := enc s.cfg tag, dutyL := d.l, dutyR := d.r, strobes := ⟨true, true, false⟩,
                     trace := s.trace ++ [.issue tag (some d)] } := by
  rw [exec_tag_instr, h, State.issue_some]

/-- A command that carries no duty pair in the present phase writes its code only. -/
theorem exec_tag_instr_of_no_duty {tag : Tag} (h : dutyOf s.cfg tag s.phase = none) :
    exec tag.instr s =
      .next { s with dir := enc s.cfg tag, strobes := ⟨true, false, false⟩,
                     trace := s.trace ++ [.issue tag none] } := by
  rw [exec_tag_instr, h, State.issue_none]

theorem dutyOf_forward_turn (c : Config) : dutyOf c .forward .turn = some c.dutyForward := rfl

theorem dutyOf_forward_of_ne_turn (c : Config) {p : Phase} (h : p ≠ .turn) : dutyOf c .forward p = none := by
  cases p
  case turn => exact absurd rfl h
  all_goals rfl

/-! ## Which row issues which command (rules R80 to R86, R92) -/

/-- The rows that emit an ISSUE, each with its command; in P_TURN it is the one that RULE selects. -/
theorem RowStep.issue_cases {tag : Tag} {duty : Option DutyPair} (h : RowStep s u)
    (ht : u.trace = s.trace ++ [.issue tag duty]) :
    (s.phase = .r1Back ∧ tag = .back ∧ duty = some s.cfg.dutyBack) ∨
    ((s.phase = .r1Stop ∨ s.phase = .r2Stop) ∧ tag = .stop ∧ duty = none) ∨
    ((s.phase = .r2Fwd ∨ s.phase = .fwdTail) ∧ tag = .forward ∧ duty = none) ∨
    (s.phase = .turn ∧ ∃ k, s.rule = some k ∧ cmdOf s.cfg k = some ⟨tag, duty⟩) := by
  cases h with
  | back hp => simp_all
  | stop hp | reacqStop hp => simp_all
  | reacqForward hp | tail hp => simp_all
  | straight hp hr =>
    obtain ⟨rfl, rfl⟩ : .forward = tag ∧ some s.cfg.dutyForward = duty := by simpa using ht
    exact .inr (.inr (.inr ⟨hp, _, hr, rfl⟩))
  | turn hp k c hr hk hc =>
    obtain ⟨rfl, rfl⟩ : c.tag = tag ∧ c.duty = duty := by simpa using ht
    exact .inr (.inr (.inr ⟨hp, k, hr, hc⟩))
  | start | sampled | waitSample | waitHold | match1Passed | match1 | hold | resampled | check | endHold
  | match2Passed | noMatch | match2Reacquire | match2Turn | reacqHold => simp at ht

/-! ## The duty pair and its code (rules R79, R121) -/

theorem duty_eq_of_outRegs_eq (h : t.outRegs = s.outRegs) : t.dutyL = s.dutyL ∧ t.dutyR = s.dutyR :=
  ⟨congrArg OutRegs.dutyL h, congrArg OutRegs.dutyR h⟩

/-- A row is an ISSUE with a duty pair, which shows both strobes and writes code and pair, or it leaves the duty pair,
shows no duty_we and emits no such event. -/
theorem RowStep.duty_cases (h : RowStep s u) :
    (∃ tag d, u.trace = s.trace ++ [.issue tag (some d)] ∧ u.strobes = ⟨true, true, false⟩ ∧
      u.dir = enc s.cfg tag ∧ u.dutyL = d.l ∧ u.dutyR = d.r) ∨
    ((∀ tag d, u.trace ≠ s.trace ++ [.issue tag (some d)]) ∧ u.strobes.dutyWe = false ∧
      u.dutyL = s.dutyL ∧ u.dutyR = s.dutyR) := by
  rcases h.shows with ⟨tag, duty, ho, hs, ht⟩ | ⟨ho, hs, ht⟩ | ⟨ho, hs, -, ht⟩
  · obtain ⟨hl, hr⟩ := duty_eq_of_outRegs_eq ho
    cases duty with
    | some d => exact .inl ⟨tag, d, ht, hs, dir_eq_of_outRegs_eq ho, hl, hr⟩
    | none => exact .inr ⟨by simp [ht], by rw [hs]; rfl, hl, hr⟩
  · exact .inr ⟨by simp [ht], by rw [hs], duty_eq_of_outRegs_eq ho⟩
  · exact .inr ⟨fun tag d => ht tag (some d), by rw [hs]; rfl, duty_eq_of_outRegs_eq ho⟩

end Machine

/-- Settles O20: the phase names the row, and in P_TURN, where the phase invariant leaves the rules 3 to 7, the rule
names the command. -/
theorem commandsIssuedOnlyWhereUsed : Obligations.CommandsIssuedOnlyWhereUsed := by
  intro s t tag duty hi hr h ht
  obtain ⟨u, hu, rfl⟩ := row_of_step hr h
  rcases hu.issue_cases ht with ⟨hp, rfl, rfl⟩ | ⟨hp, rfl, rfl⟩ | ⟨hp, rfl, rfl⟩ | ⟨hp, k, hk, hc⟩
  · exact ⟨rfl, hp⟩
  · exact ⟨rfl, hp⟩
  · exact .inr ⟨rfl, hp⟩
  · have h3 : 3#3 ≤ k := by simpa [hk] using rule_of_phaseInv_turn hi hp
    rcases ruleNo_cases k with rfl | rfl | rfl | rfl | rfl | rfl | rfl | rfl
    iterate 3 exact absurd h3 (by decide)
    · cases hc; exact .inl ⟨rfl, hp, hk⟩
    all_goals cases hc; exact ⟨rfl, hp, hk⟩

/-- Settles O46: a row writes the duty pair with its code, in the ISSUE that emits both, or leaves it. -/
theorem dutyChangesOnlyWithItsCode : Obligations.DutyChangesOnlyWithItsCode := by
  intro s t hr h
  obtain ⟨u, hu, rfl⟩ := row_of_step hr h
  simp only [State.tick_trace, State.tick_strobes, State.tick_dir, State.tick_dutyL, State.tick_dutyR]
  rcases hu.duty_cases with ⟨tag, d, ht, hs, hd, hl, hdr⟩ | ⟨ht, hs, hlr⟩
  · refine ⟨fun _ => ⟨by rw [hs], tag, d, ht, hd, hl, hdr⟩, fun tag' d' ht' => ?_, by simp [hs]⟩
    obtain ⟨rfl, rfl⟩ : tag = tag' ∧ d = d' := by simpa [ht] using ht'
    exact ⟨by rw [hs], by rw [hs], hd, hl, hdr⟩
  · exact ⟨by simp [hs], fun tag d h => absurd h (ht tag d), fun _ => hlr⟩

/-- Settles O12: the encoder reads the record's seven codes, which entry I1 fixes. -/
theorem encoderCodes : Obligations.EncoderCodes := by
  refine ⟨fun c => ⟨rfl, rfl, rfl, rfl, rfl, rfl, rfl⟩, fun c hc => ?_, fun s tag d => ⟨rfl, rfl⟩⟩
  obtain ⟨hstop, hforward, hleft, hright, hsoftRight, hsoftLeft, hback⟩ := c.wf_iff.mp hc
  exact ⟨hstop, hforward, hleft, hright, hsoftRight, hsoftLeft, hback, legalDir4_iff_exists_tag hc⟩

/-- Settles O16: the two forms of ISSUE, and its ports by the laws of each field. -/
theorem issueAppliesOneCommand : Obligations.IssueAppliesOneCommand := by
  refine ⟨fun s tag l r => s.issue_some tag ⟨l, r⟩, State.issue_none, fun s tag duty => ?_⟩
  simp [State.hostPort, State.outputs]

/-- Settles O17: STOP carries no duty pair in any phase. -/
theorem stopIsDirectionOnly : Obligations.StopIsDirectionOnly :=
  fun _ => exec_tag_instr_of_no_duty (tag := .stop) rfl

/-- Settles O18: the phase says whether FORWARD carries its duty pair. -/
theorem forwardInBothForms : Obligations.ForwardInBothForms := fun s =>
  ⟨fun hp => exec_tag_instr_of_duty (tag := .forward) (hp ▸ dutyOf_forward_turn s.cfg),
    fun hp => exec_tag_instr_of_no_duty (tag := .forward) (dutyOf_forward_of_ne_turn s.cfg hp)⟩

/-- Settles O19: each of the five commands carries its own duty pair in every phase. -/
theorem dutyCarryingCommands : Obligations.DutyCarryingCommands := fun _ =>
  ⟨exec_tag_instr_of_duty (tag := .left) rfl, exec_tag_instr_of_duty (tag := .right) rfl,
    exec_tag_instr_of_duty (tag := .softRight) rfl, exec_tag_instr_of_duty (tag := .softLeft) rfl,
    exec_tag_instr_of_duty (tag := .back) rfl⟩

end Sys2Proof
end

section
/-! PROOF. The control loop: the rows of rule R92 and back from a row to the step, what the trace says of the output
registers (rule R100), the waits and the match steps (rules R94 to R97), and the passes: no step reads what a pass
began with (rule R93), and which event sequences a pass emits and how soon it ends (rules R91, R101). -/

namespace Sys2Proof

open Sys2Proof.Machine

namespace Machine

variable {s t u : State}

/-! ## The output registers and the trace (rule R100) -/

theorem State.issue_outRegs (s : State) (tag : Tag) (duty : Option DutyPair) :
    (s.issue tag duty).outRegs = s.outRegs.after s.cfg (.issue tag duty) := by
  cases duty <;> rfl

theorem outRegsOf_append (c : Config) (tr es : List Event) :
    outRegsOf c (tr ++ es) = es.foldl (OutRegs.after c) (outRegsOf c tr) :=
  List.foldl_append

/-- What a row does to the output registers is what the events it emits say. -/
theorem RowStep.exists_events (h : RowStep s u) :
    ∃ es, u.trace = s.trace ++ es ∧ u.outRegs = es.foldl (OutRegs.after s.cfg) s.outRegs := by
  cases h with
  | back | stop | reacqStop | reacqForward | straight | turn | tail =>
    exact ⟨[_], State.issue_trace _ _ _, State.issue_outRegs _ _ _⟩
  | start | sampled | hold | resampled | endHold | noMatch | reacqHold => exact ⟨[_], rfl, rfl⟩
  | waitSample | waitHold | match1Passed | match1 | check | match2Passed | match2Reacquire | match2Turn =>
    exact ⟨[], (List.append_nil _).symm, rfl⟩

end Machine

/-- Settles O44: a reset step restores the reset values and empties the trace, and a row writes what its events say. -/
theorem everyStepKeepsOutputsEqualToTrace : Obligations.EveryStepKeepsOutputsEqualToTrace := by
  intro s t hs h
  cases hr : s.pins.rst with
  | true =>
    rw [step_of_rst hr] at h
    cases h
    rfl
  | false =>
    rw [step_cfg h]
    obtain ⟨u, hu, rfl⟩ := row_of_step hr h
    obtain ⟨es, htrace, hregs⟩ := hu.exists_events
    rw [State.tick_trace, htrace, outRegsOf_append, ← hs]
    exact hregs

namespace Machine

variable {s t u : State}

/-! ## The table of rule R92: a row is the step, and its events are the table's -/

/-- The converse of `row_of_step`: each row of rule R92 is the step of every state that meets its guard. -/
theorem RowStep.step_eq (h : RowStep s u) (hr : s.pins.rst = false) : step s = .next u.tick := by
  cases h with
  | start hp => exact step_start hr hp
  | sampled hp hv => rw [step_sample hr hp, sampleRow_of_valid _ hv, onNext_next]
  | waitSample hp hv =>
    exact step_of_not_enabled hr (enabled_eq_false_iff.mpr (.inl ⟨smpReq_eq_true_iff.mpr hp, hv⟩))
  | waitHold hp hv =>
    exact step_of_not_enabled hr (enabled_eq_false_iff.mpr (.inr ⟨holdReq_eq_true_iff.mpr hp, hv⟩))
  | match1Passed hp hd => rw [step_match1 hr hp, if_pos hd]
  | match1 hp hd p hq => rw [step_match1 hr hp, if_neg (by simp [hd]), hq]
  | back hp => exact step_r1Back hr hp
  | hold hp hv => exact step_r1Hold_done hr hp hv
  | resampled hp hv => exact step_r1Resample_delivered hr hp rfl hv
  | check hp p hq => rw [step_r1Check hr hp, hq]
  | stop hp => exact step_r1Stop hr hp
  | endHold hp hv => exact step_r1EndHold_done hr hp hv
  | match2Passed hp hd => exact step_match2_of_dflag hr hp hd
  | noMatch hp hd hq => exact step_match2_noMatch hr hp hd hq
  | match2Reacquire hp hd hq => exact step_match2_of_rule hr hp hd hq (by decide) (by decide)
  | match2Turn hp hd p hq h0 h5 h7 => rw [step_match2_of_rule hr hp hd hq h5 h7, if_neg h0]
  | reacqStop hp => exact step_r2Stop hr hp
  | reacqHold hp hv => exact step_r2Hold_done hr hp hv
  | reacqForward hp => exact step_r2Fwd hr hp
  | straight hp hk => exact step_turn_of_cmd hr hp hk rfl
  | turn hp k c hk hne hc => rw [step_turn_of_cmd hr hp hk hc, if_neg hne]
  | tail hp => exact step_fwdTail hr hp

/-- The "event" column: a row emits the event of the table, and a wait emits none. -/
theorem RowStep.trace_eq (h : RowStep s u) :
    u.trace = s.trace ++ if enabled s then (tableEvent s).toList else [] := by
  cases h with
  | waitSample hp hv => rcases hp with hp | hp <;> simp [enabled, smpReq, hp, hv]
  | waitHold hp hv => rcases hp with hp | hp | hp <;> simp [enabled, smpReq, holdReq, hp, hv]
  | sampled hp hv | resampled hp hv => simp [enabled, smpReq, tableEvent, hp, hv]
  | hold hp hv | endHold hp hv | reacqHold hp hv => simp [enabled, smpReq, holdReq, tableEvent, hp, hv]
  | match2Passed hp hd => simp [tableEvent, hp, hd]
  | noMatch hp hd hq => simp [enabled, smpReq, holdReq, tableEvent, hp, hd, hq]
  | match2Reacquire hp hd hq => simp [tableEvent, hp, hq]
  | match2Turn hp hd p hq h0 h5 => simp [tableEvent, hp, hq, h5]
  | straight hp hr => simp [enabled, smpReq, holdReq, tableEvent, hp, hr, cmdOf]
  | turn hp k c hr hk hc => simp [enabled, smpReq, holdReq, tableEvent, hp, hr, hc]
  | match1Passed hp | match1 hp | check hp => simp [tableEvent, hp]
  | start hp | back hp | stop hp | reacqStop hp | reacqForward hp | tail hp =>
    simp [enabled, smpReq, holdReq, tableEvent, hp]

/-- Rule 1 selected at P_MATCH2 is the fault of rule R95. -/
theorem step_match2_ruleOne {p : Pat} (hr : s.pins.rst = false) (hp : s.phase = .match2) (hd : s.dflag = false)
    (hq : s.pat = some p) (h1 : matchRule p false = 1#3) : step s = .fault .ruleOneAtMatch2 := by
  rw [step_match2 hr hp, if_neg (by simp [hd]), hq]
  simp [h1, match2Row, hd]

/-- The matcher selects one of the rules 3 to 7 for no pattern but those of `RowStep.match2Turn` (rule R64). -/
theorem ne_of_three_le_matchRule {p : Pat} (h : 3#3 ≤ matchRule p false) :
    p ≠ 0b000#3 ∧ p ≠ 0b101#3 ∧ p ≠ 0b111#3 := by
  revert p; decide

/-! ## Holds (rule R97) -/

theorem holdReq_of_holdCount {c : Config} {p : Phase} {n : Count} (h : holdCount c p = some n) :
    holdReq p = true := by
  unfold holdCount at h
  split at h
  · rfl
  · rfl
  · rfl
  · cases h

/-- Without the end of the delay a hold phase waits, for any number of steps. -/
theorem exists_runFor_no_holdDone (hq : holdReq s.phase = true) (n : Nat)
    (h : ∀ p ∈ s.inputs.take n, p.rst = false ∧ p.holdDone = false) :
    ∃ t, runFor n s = .next t ∧ s.sameBlock t = true :=
  exists_runFor_waiting (W := fun x => x.rst = false ∧ x.holdDone = false) ⟨rfl, rfl⟩ s.phase
    (fun _ hp ⟨hr, hv⟩ => ⟨hr, enabled_eq_false_iff.mpr (.inr ⟨hp ▸ hq, hv⟩)⟩) n rfl h

theorem cfg_eq_of_sameBlock (h : s.sameBlock t = true) : t.cfg = s.cfg := by
  simp_all [State.sameBlock]

end Machine

/-- Settles O34: the three hold rows, and a run of waits keeps the phase and the record, hence the request. -/
theorem holdFreezesTheBlock : Obligations.HoldFreezesTheBlock := by
  intro s n next hmem
  simp only [List.mem_cons, List.not_mem_nil, or_false, Prod.mk.injEq] at hmem
  have hcount : holdCount s.cfg s.phase = some n := by
    rcases hmem with ⟨hp, rfl, -⟩ | ⟨hp, rfl, -⟩ | ⟨hp, rfl, -⟩ <;> rw [hp] <;> rfl
  have hq := holdReq_of_holdCount hcount
  refine ⟨hq, hcount, fun hr hv => ?_, fun k h => ?_⟩
  · rcases hmem with ⟨hp, rfl, rfl⟩ | ⟨hp, rfl, rfl⟩ | ⟨hp, rfl, rfl⟩
    · rw [(RowStep.hold hp hv).step_eq hr, hp]; rfl
    · rw [(RowStep.endHold hp hv).step_eq hr, hp]; rfl
    · rw [(RowStep.reacqHold hp hv).step_eq hr, hp]; rfl
  · obtain ⟨t, ht, hsame⟩ := exists_runFor_no_holdDone hq k h
    refine ⟨t, ht, hsame, ?_, ?_⟩
    · show holdReq t.phase = true
      rwa [phase_eq_of_sameBlock hsame]
    · show holdCount t.cfg t.phase = some n
      rwa [phase_eq_of_sameBlock hsame, cfg_eq_of_sameBlock hsame]

/-- Settles O36: the rows of P_MATCH1 and P_R1_CHECK, which write PHASE only. -/
theorem matchOneAndRecheck : Obligations.MatchOneAndRecheck := by
  intro s hr
  refine ⟨fun hp hi => ?_, fun p hp hd hq => ⟨_, (RowStep.match1 hp hd p hq).step_eq hr, rfl⟩,
    fun p hp hq => ⟨_, (RowStep.check hp p hq).step_eq hr, rfl⟩⟩
  simp_all [phaseInv]

/-- Settles O37: the rows of P_MATCH2, one for each kind of rule number, and the phase invariant excludes 0b111. -/
theorem matchTwoSelectsTheRule : Obligations.MatchTwoSelectsTheRule := by
  intro s hr hp
  refine ⟨fun hd => ⟨_, (RowStep.match2Passed hp hd).step_eq hr, rfl⟩, fun p hd hq => ⟨fun h0 => ?_,
    step_match2_ruleOne hr hp hd hq, fun h2 => ?_, fun h3 => ?_⟩, fun hi hd => ?_⟩
  · rw [matchRule_eq_zero_iff.mp h0] at hq
    exact ⟨_, (RowStep.noMatch hp hd hq).step_eq hr, rfl⟩
  · rw [matchRule_eq_two_iff.mp h2] at hq
    exact ⟨_, (RowStep.match2Reacquire hp hd hq).step_eq hr, rfl⟩
  · obtain ⟨h0, h5, h7⟩ := ne_of_three_le_matchRule h3
    exact ⟨_, (RowStep.match2Turn hp hd p hq h0 h5 h7).step_eq hr, rfl⟩
  · obtain ⟨p, hq, h7⟩ := pat_of_phaseInv_match2 hi hp hd
    exact ⟨p, hq, matchRule_ne_one h7⟩

/-- Settles O38: the row of P_TURN, and for the rules 4 to 7 that of P_FWD_TAIL after it. -/
theorem turnThenForwardTail : Obligations.TurnThenForwardTail := by
  intro s k tag d hn hp hk hc
  have run1 := runFor_snoc hn (by decide) (runFor_zero s) fun hr => step_turn_of_cmd hr hp hk hc
  refine ⟨?_, fun h4 => ?_⟩
  · rintro rfl
    exact ⟨_, run1, rfl, rfl, rfl, rfl, rfl, rfl⟩
  · have h43 : ∀ j : RuleNo, 4#3 ≤ j → j ≠ 3#3 := by decide
    rw [if_neg (h43 k h4)] at run1
    have run2 := runFor_snoc hn (by decide) run1 fun hr => step_fwdTail hr rfl
    exact ⟨_, _, run1, run2, rfl, rfl, rfl, rfl, rfl, rfl, rfl, rfl, rfl, rfl, rfl, rfl⟩

/-- Settles O39: the columns of the table, over the rows of rule R92. -/
theorem everyStepFollowsTheTable : Obligations.EveryStepFollowsTheTable := by
  intro s t hr h
  obtain ⟨u, hu, rfl⟩ := row_of_step hr h
  exact ⟨hu.phase_eq, hu.trace_eq⟩

/-- Settles O43: the phases that read LAT or RULE have a value to read, and P_MATCH2 does not meet rule 1. -/
theorem invariantExcludesFaults : Obligations.InvariantExcludesFaults :=
  fun _ => exists_step_of_phaseInv

/-- Settles O30: the row of P_START. -/
theorem passStartsByClearingTheFlag : Obligations.PassStartsByClearingTheFlag :=
  fun _ hr hp => step_start hr hp

namespace Machine

variable {s t u : State}

/-! ## No step reads the LAT or RULE that a pass began with (rule R93) -/

/-- The state with other values in LAT and RULE. -/
def State.withLatRule (s : State) (x : Option Readings) (k : Option RuleNo) : State :=
  { s with lat := x, rule := k }

/-- The values `x` and `k` are those of LAT and RULE wherever the block may read them: LAT from the first sample of
the pass on, RULE in P_TURN. -/
def AgreesWhereRead (s : State) (x : Option Readings) (k : Option RuleNo) : Prop :=
  (s.phase ≠ .start → s.phase ≠ .sample → x = s.lat) ∧ (s.phase = .turn → k = s.rule)

theorem agreesWhereRead_of_not_read {x : Option Readings} {k : Option RuleNo}
    (hp : s.phase = .start ∨ s.phase = .sample) : AgreesWhereRead s x k := by
  rcases hp with hp | hp <;> simp [AgreesWhereRead, hp]

theorem agreesWhereRead_self (s : State) : AgreesWhereRead s s.lat s.rule :=
  ⟨fun _ _ => rfl, fun _ => rfl⟩

/-- Outside P_TURN a row does the same to the rest of the block whatever RULE holds, and P_TURN is entered with RULE
written anew. -/
theorem RowStep.exists_withRule (h : RowStep s u) (hp : s.phase ≠ .turn) (k : Option RuleNo) :
    ∃ j, RowStep (s.withLatRule s.lat k) (u.withLatRule u.lat j) ∧ (u.phase = .turn → j = u.rule) := by
  cases h with
  | start hp => exact ⟨k, .start hp, nofun⟩
  | sampled hp hv => exact ⟨k, .sampled hp hv, nofun⟩
  | waitSample hp hv => exact ⟨k, .waitSample hp hv, fun ht => absurd ht ‹_›⟩
  | waitHold hp hv => exact ⟨k, .waitHold hp hv, fun ht => absurd ht ‹_›⟩
  | match1Passed hp hd => exact ⟨k, .match1Passed hp hd, nofun⟩
  | match1 hp hd p hq => exact ⟨k, .match1 (s := s.withLatRule s.lat k) hp hd p hq, by simp [ite_eq_iff]⟩
  | back hp => exact ⟨k, .back hp, nofun⟩
  | hold hp hv => exact ⟨k, .hold hp hv, nofun⟩
  | resampled hp hv => exact ⟨k, .resampled hp hv, nofun⟩
  | check hp p hq => exact ⟨k, .check (s := s.withLatRule s.lat k) hp p hq, by simp [ite_eq_iff]⟩
  | stop hp => exact ⟨k, .stop hp, nofun⟩
  | endHold hp hv => exact ⟨k, .endHold hp hv, nofun⟩
  | match2Passed hp hd => exact ⟨k, .match2Passed hp hd, nofun⟩
  | noMatch hp hd hq => exact ⟨_, .noMatch hp hd hq, nofun⟩
  | match2Reacquire hp hd hq => exact ⟨_, .match2Reacquire hp hd hq, nofun⟩
  | match2Turn hp hd p hq h0 h5 h7 =>
    exact ⟨_, .match2Turn (s := s.withLatRule s.lat k) hp hd p hq h0 h5 h7, fun _ => rfl⟩
  | reacqStop hp => exact ⟨k, .reacqStop hp, nofun⟩
  | reacqHold hp hv => exact ⟨k, .reacqHold hp hv, nofun⟩
  | reacqForward hp => exact ⟨k, .reacqForward hp, nofun⟩
  | straight ht | turn ht => exact absurd ht hp
  | tail hp => exact ⟨k, .tail hp, nofun⟩

/-- A row does the same to the rest of the block whatever the values of LAT and RULE are that it may not read. -/
theorem RowStep.exists_withLatRule (h : RowStep s u) {x : Option Readings} {k : Option RuleNo}
    (ha : AgreesWhereRead s x k) :
    ∃ y j, RowStep (s.withLatRule x k) (u.withLatRule y j) ∧ AgreesWhereRead u y j := by
  obtain ⟨hlat, hrule⟩ := ha
  by_cases hunread : s.phase = .start ∨ s.phase = .sample
  · cases h with
    | start hp => exact ⟨x, k, .start hp, agreesWhereRead_of_not_read (.inr rfl)⟩
    | sampled hp hv => exact ⟨_, k, .sampled hp hv, fun _ _ => rfl, nofun⟩
    | waitSample hp hv => exact ⟨x, k, .waitSample hp hv, agreesWhereRead_of_not_read hunread⟩
    | waitHold hp => rcases hunread with h | h <;> simp [h] at hp
    | match1Passed hp | match1 hp | back hp | hold hp | resampled hp | check hp | stop hp | endHold hp
    | match2Passed hp | noMatch hp | match2Reacquire hp | match2Turn hp | reacqStop hp | reacqHold hp
    | reacqForward hp | straight hp | turn hp | tail hp => simp [hp] at hunread
  · obtain ⟨hstart, hsample⟩ := not_or.mp hunread
    obtain rfl := hlat hstart hsample
    by_cases hturn : s.phase = .turn
    · obtain rfl := hrule hturn
      exact ⟨_, _, h, agreesWhereRead_self u⟩
    · obtain ⟨j, hrow, hj⟩ := h.exists_withRule hturn k
      exact ⟨_, j, hrow, fun _ _ => rfl, hj⟩

/-- A step does the same to the rest of the state whatever the values of LAT and RULE are that it may not read. -/
theorem exists_step_withLatRule (h : step s = .next t) {x : Option Readings} {k : Option RuleNo}
    (ha : AgreesWhereRead s x k) :
    ∃ y j, step (s.withLatRule x k) = .next (t.withLatRule y j) ∧ AgreesWhereRead t y j := by
  cases hr : s.pins.rst with
  | true =>
    rw [step_of_rst hr] at h
    cases h
    exact ⟨none, none, step_of_rst hr, agreesWhereRead_of_not_read (.inl rfl)⟩
  | false =>
    obtain ⟨u, hu, rfl⟩ := row_of_step hr h
    obtain ⟨y, j, hrow, hagree⟩ := hu.exists_withLatRule ha
    exact ⟨y, j, hrow.step_eq hr, hagree⟩

theorem exists_runFor_withLatRule {n : Nat} (h : runFor n s = .next t) {x : Option Readings} {k : Option RuleNo}
    (ha : AgreesWhereRead s x k) : ∃ y j, runFor n (s.withLatRule x k) = .next (t.withLatRule y j) := by
  induction n generalizing s x k with
  | zero => cases h; exact ⟨x, k, rfl⟩
  | succ n ih =>
    obtain ⟨u, hu, ht⟩ := runFor_succ_eq_next.mp h
    obtain ⟨y, j, hstep, hagree⟩ := exists_step_withLatRule hu ha
    rw [runFor_succ_of_step hstep]
    exact ih ht hagree

end Machine

/-- Settles O31: the row of P_START; then LAT is read from the pass's sample on and RULE in P_TURN, which is entered
with RULE written anew. -/
theorem oldReadingsAndRuleNeverMatter : Obligations.OldReadingsAndRuleNeverMatter := by
  refine ⟨fun s hr hp => ⟨_, step_start hr hp, rfl, rfl, rfl, rfl, rfl, rfl, rfl⟩, fun s x k n hp => ?_⟩
  obtain ⟨t, ht⟩ := exists_runFor_of_phaseInv n (phaseInv_of_start hp)
  obtain ⟨y, j, ht'⟩ := exists_runFor_withLatRule ht (agreesWhereRead_of_not_read (x := x) (k := k) (.inl hp))
  exact ⟨t, _, ht, ht', rfl⟩

namespace Machine

variable {s t u v : State}

/-! ## The five event sequences are told apart by the patterns they sampled (rule R101) -/

/-- The pattern that an event's readings classify to, if it is a sample. -/
def Event.sampledPat (c : Config) : Event → Option Pat
  | .sample l m r => some (classify c ⟨l, m, r⟩)
  | _ => none

/-- The number in rule R101 of the event sequence whose samples classify to the given patterns. -/
def shapeOfPats : List Pat → Nat
  | [p] => if p = 0b101#3 then 2 else 1
  | [_, q] => if q = 0b111#3 then 3 else if q = 0b101#3 then 5 else 4
  | _ => 0

/-- An action list takes no sample (rules R70 to R75). -/
theorem filterMap_sampledPat_ruleEvents (c : Config) (k : RuleNo) :
    (ruleEvents c k).filterMap (Event.sampledPat c) = [] := by
  rcases ruleNo_cases k with rfl | rfl | rfl | rfl | rfl | rfl | rfl | rfl <;> rfl

theorem plainPat_iff {p : Pat} : plainPat p = true ↔ p ≠ 0b111#3 ∧ p ≠ 0b101#3 := by
  simp [plainPat]

theorem filterMap_sampledPat_first (c : Config) (x : Readings) (f : List Event) :
    ([.pass, sampleEvent x] ++ f).filterMap (Event.sampledPat c) =
      classify c x :: f.filterMap (Event.sampledPat c) := rfl

theorem filterMap_sampledPat_recovery (c : Config) (x y : Readings) (f : List Event) :
    (recoveryEvents c x y ++ f).filterMap (Event.sampledPat c) =
      classify c x :: classify c y :: f.filterMap (Event.sampledPat c) := rfl

theorem PassShape.number_eq {c : Config} {k : Nat} {e : List Event} (h : PassShape c k e) :
    k = shapeOfPats (e.filterMap (Event.sampledPat c)) := by
  cases h with
  | rule x hx =>
    rw [filterMap_sampledPat_first, filterMap_sampledPat_ruleEvents]
    simp [shapeOfPats, (plainPat_iff.mp hx).2]
  | uncovered x hx =>
    show 2 = shapeOfPats [classify c x]
    rw [hx]; rfl
  | terminal x y hx hy =>
    rw [filterMap_sampledPat_recovery, hy]; rfl
  | recovered x y hx hy =>
    obtain ⟨h7, h5⟩ := plainPat_iff.mp hy
    rw [filterMap_sampledPat_recovery, filterMap_sampledPat_ruleEvents]
    simp [shapeOfPats, h7, h5]
  | recoveredUncovered x y hx hy =>
    rw [filterMap_sampledPat_recovery, hy]; rfl

/-! ## What a pass under way has emitted (rule R101) -/

/-- The events `e` are a first part of one of the five event sequences. -/
def IsShapePrefix (c : Config) (e : List Event) : Prop := ∃ f k, PassShape c k (e ++ f)

theorem PassShape.isShapePrefix {c : Config} {k : Nat} {e : List Event} (h : PassShape c k e) :
    IsShapePrefix c e :=
  ⟨[], k, by rwa [List.append_nil]⟩

theorem IsShapePrefix.of_append {c : Config} {e f : List Event} (h : IsShapePrefix c (e ++ f)) :
    IsShapePrefix c e := by
  obtain ⟨g, k, hg⟩ := h
  exact ⟨f ++ g, k, by rwa [← List.append_assoc]⟩

/-- Some readings are on line in all three channels, whatever the threshold. -/
theorem exists_allOn (c : Config) : ∃ y, classify c y = 0b111#3 :=
  ⟨readingsFor 0b111#3, classify_readingsFor (.inr rfl)⟩

/-- Whatever the re-sample is, the recovery goes on to a whole event sequence. -/
theorem isShapePrefix_recovery {c : Config} {x : Readings} (y : Readings) (hx : classify c x = 0b111#3) :
    IsShapePrefix c (recoveryEvents c x y) := by
  by_cases h7 : classify c y = 0b111#3
  · exact ⟨_, 3, .terminal x y hx h7⟩
  · by_cases h5 : classify c y = 0b101#3
    · exact ⟨_, 5, .recoveredUncovered x y hx h5⟩
    · exact ⟨_, 4, .recovered x y hx (plainPat_of_ne h7 h5)⟩

/-- After a sample that is all on line, BACK and its hold go on to a whole event sequence. -/
theorem isShapePrefix_back {c : Config} {x : Readings} (hx : classify c x = 0b111#3) :
    IsShapePrefix c [.pass, sampleEvent x, .issue .back (some c.dutyBack), .hold c.tBack] := by
  obtain ⟨y, -⟩ := exists_allOn c
  exact (isShapePrefix_recovery y hx).of_append (f := [sampleEvent y])

/-- Whatever the sample is, the pass goes on to a whole event sequence. -/
theorem isShapePrefix_sample (c : Config) (x : Readings) : IsShapePrefix c [.pass, sampleEvent x] := by
  by_cases h7 : classify c x = 0b111#3
  · exact (isShapePrefix_back h7).of_append (e := [.pass, sampleEvent x])
  · by_cases h5 : classify c x = 0b101#3
    · exact ⟨_, 2, .uncovered x h5⟩
    · exact ⟨_, 1, .rule x (plainPat_of_ne h7 h5)⟩

/-- What the state `v` has emitted since `s` is a first part of one of the five event sequences. -/
def HasEmittedPrefix (s v : State) : Prop := ∃ e, v.trace = s.trace ++ e ∧ IsShapePrefix s.cfg e

theorem TriedAgainst.hasEmittedPrefix {y : Readings} (h : TriedAgainst s y v) : HasEmittedPrefix s v := by
  cases h with
  | sampled _ hx => exact ⟨_, rfl, isShapePrefix_sample _ y⟩
  | resampled x y hx hy => exact ⟨_, rfl, isShapePrefix_recovery y hx⟩

/-- A rule 2 to 7 completes an event sequence with its action list. -/
theorem TriedAgainst.exists_shape {y : Readings} (h : TriedAgainst s y v) (h5 : classify s.cfg y ≠ 0b101#3) :
    ∃ e k, v.trace = s.trace ++ e ∧
      PassShape s.cfg k (e ++ ruleEvents s.cfg (matchRule (classify s.cfg y) false)) := by
  cases h with
  | sampled _ hx => exact ⟨[.pass, sampleEvent y], 1, rfl, .rule y (plainPat_of_ne hx h5)⟩
  | resampled x _ hx hy => exact ⟨recoveryEvents s.cfg x y, 4, rfl, .recovered x y hx (plainPat_of_ne hy h5)⟩

/-- A first part of the action list of the selected rule continues a first part of an event sequence. -/
theorem TriedAgainst.hasEmittedPrefix_of_rule {y : Readings} (h : TriedAgainst s y v)
    (h5 : classify s.cfg y ≠ 0b101#3) {f g : List Event}
    (hfg : ruleEvents s.cfg (matchRule (classify s.cfg y) false) = f ++ g) (hu : u.trace = v.trace ++ f) :
    HasEmittedPrefix s u := by
  obtain ⟨e, k, he, hshape⟩ := h.exists_shape h5
  rw [hfg, ← List.append_assoc] at hshape
  exact ⟨e ++ f, by rw [hu, he, List.append_assoc], g, k, hshape⟩

/-- At every point a pass under way has emitted a first part of one of the five event sequences. -/
theorem PassPoint.hasEmittedPrefix (h : PassPoint s v) : HasEmittedPrefix s v := by
  have h2 {y : Readings} (hy : classify s.cfg y = 0b000#3) :
      classify s.cfg y ≠ 0b101#3 ∧ ruleEvents s.cfg (matchRule (classify s.cfg y) false) =
        [.issue .stop none, .hold s.cfg.tReacq, .issue .forward none] := by
    rw [hy]; exact ⟨by decide, rfl⟩
  cases h with
  | sample =>
    obtain ⟨x, -⟩ := exists_allOn s.cfg
    exact ⟨_, rfl, (isShapePrefix_sample s.cfg x).of_append (f := [sampleEvent x])⟩
  | match1 x | r1Back x => exact ⟨_, rfl, isShapePrefix_sample _ x⟩
  | r1Hold x hx => exact ⟨_, rfl, (isShapePrefix_back hx).of_append (f := [.hold s.cfg.tBack])⟩
  | r1Resample x hx => exact ⟨_, rfl, isShapePrefix_back hx⟩
  | r1Check x y hx | r1Stop x y hx => exact ⟨_, rfl, isShapePrefix_recovery y hx⟩
  | r1EndHold x y hx hy =>
    refine ⟨_, rfl, IsShapePrefix.of_append (f := [.hold s.cfg.tEnd]) ?_⟩
    rw [List.append_assoc]
    exact (PassShape.terminal x y hx hy).isShapePrefix
  | r1Done x y hx hy => exact ⟨_, rfl, (PassShape.terminal x y hx hy).isShapePrefix⟩
  | match2 y v hv => exact hv.hasEmittedPrefix
  | r2Stop y v hv | turn y v hv => exact hv.hasEmittedPrefix
  | r2Hold y v hv hy =>
    exact hv.hasEmittedPrefix_of_rule (h2 hy).1 (f := [.issue .stop none]) (h2 hy).2 rfl
  | r2Fwd y v hv hy =>
    exact hv.hasEmittedPrefix_of_rule (h2 hy).1 (f := [.issue .stop none, .hold s.cfg.tReacq]) (h2 hy).2 rfl
  | fwdTail y v hv h5 tag d h4 hc =>
    exact hv.hasEmittedPrefix_of_rule h5 (f := [.issue tag (some d)]) (ruleEvents_of_four_le h4 hc).1 rfl

theorem InPass.start_phase {n : Nat} (h : InPass s n t) : s.phase = .start := by
  induction h with
  | first hp => exact hp
  | later _ _ _ _ ih => exact ih

theorem phaseInv_of_inPass {n : Nat} (h : InPass s n t) : phaseInv t = true :=
  runFor_keeps (P := fun v => phaseInv v = true) step_keeps_phaseInv (phaseInv_of_start h.start_phase) h.runFor_eq

theorem PassUnderWay.inPass {n : Nat} (h : PassUnderWay n s t) : InPass s n t := by
  obtain ⟨hp, h0, hn, run, haway⟩ := h
  exact inPass_of_runFor hp h0 hn run fun m u hm hmn => haway m u hm hmn.le

theorem PassUnderWay.hasEmittedPrefix {n : Nat} (h : PassUnderWay n s t) : HasEmittedPrefix s t := by
  obtain ⟨v, hv | hv, hsame⟩ := h.inPass.exists_point
  · rw [eq_under_of_sameBlock hsame]
    exact hv.hasEmittedPrefix
  · obtain ⟨-, h0, -, run, haway⟩ := h
    exact absurd ((phase_eq_of_sameBlock hsame).symm.trans hv.phase_eq) (haway n t h0 le_rfl run)

end Machine

/-- Settles O55: the ends of a pass emit the five sequences, which the sampled patterns tell apart; each point on the
way has emitted a first part of one, and a step that keeps the phase is a wait. -/
theorem passEmitsExactlyOneShape : Obligations.PassEmitsExactlyOneShape := by
  refine ⟨fun s t n hpass => ?_, fun s t n hway => ⟨?_, fun hr => ?_⟩⟩
  · obtain ⟨k, e, ht, hshape, -⟩ := outputsAtTheEndOfAPass s t n hpass
    exact ⟨e, ht, k, hshape, fun j hj => hj.number_eq.trans hshape.number_eq.symm⟩
  · obtain ⟨e, ht, f, k, hshape⟩ := hway.hasEmittedPrefix
    exact ⟨e, f, k, ht, hshape⟩
  · obtain ⟨u, hu⟩ := exists_step_of_phaseInv (phaseInv_of_inPass hway.inPass)
    exact ⟨u, hu, fun hphase => by_contra fun hwait => (pendingChangesNothing t u hr hu).2 hwait hphase⟩

namespace Machine

variable {s t u v : State}

/-! ## Passes that end (rules R91, R92, R102) -/

/-- One more step without a reset at the end of a run. -/
theorem noResetFor_succ_of_runFor {n : Nat} (hn : noResetFor n s = true) (run : runFor n s = .next t)
    (hr : t.pins.rst = false) : noResetFor (n + 1) s = true := by
  induction n generalizing s with
  | zero => cases run; exact noResetFor_succ_iff.mpr ⟨hr, rfl⟩
  | succ n ih =>
    obtain ⟨u, hu, ht⟩ := runFor_succ_eq_next.mp run
    have hlater := ih (noResetFor_of_step hn hu) ht
    rw [noResetFor, step_inputs hu] at hlater
    exact noResetFor_succ_iff.mpr ⟨rst_of_noResetFor hn, hlater⟩

theorem noResetFor_of_inPass {n : Nat} (h : InPass s n t) : noResetFor n s = true := by
  induction h with
  | first _ hr => exact noResetFor_succ_of_runFor (n := 0) rfl rfl hr
  | later hin _ hr _ ih => exact noResetFor_succ_of_runFor ih hin.runFor_eq hr

/-- Before the last step of a pass the block does not stand at P_START. -/
theorem InPass.phase_ne_start {n m : Nat} (h : InPass s n t) (h0 : 0 < m) (hm : m < n)
    (run : runFor m s = .next u) : u.phase ≠ .start := by
  induction h with
  | first => exact absurd hm (Nat.not_lt.mpr h0)
  | later hin hp hr h ih =>
    rcases Nat.lt_succ_iff_lt_or_eq.mp hm with hlt | rfl
    · exact ih hlt
    · obtain rfl := Host.Outcome.next.inj (hin.runFor_eq.symm.trans run)
      exact hp

/-- A pass that has come back to P_START is complete. -/
theorem InPass.completePass {n : Nat} (h : InPass s n t) (hp : t.phase = .start) : CompletePass n s t := by
  have h0 : 0 < n := by cases h <;> exact Nat.succ_pos _
  exact ⟨h.start_phase, h0, noResetFor_of_inPass h, h.runFor_eq, hp, fun _ _ => h.phase_ne_start⟩

/-- The pass goes on by a row. -/
theorem InPass.row {n : Nat} (h : InPass s n t) (hp : t.phase ≠ .start) (hr : t.pins.rst = false)
    (hu : RowStep t u) : InPass s (n + 1) u.tick :=
  .later h hp hr (hu.step_eq hr)

/-! ## With prompt answers every step counts (rule R92) -/

/-- How many enabled steps a pass can still take: one for each phase on the longest way to P_START. At P_MATCH2 the
way depends on whether rule 1 has fired. -/
def stepsToStart (s : State) : Nat :=
  match s.phase with
  | .start => 0
  | .sample => 10
  | .match1 => 9
  | .r1Back => 8
  | .r1Hold => 7
  | .r1Resample => 6
  | .r1Check => 5
  | .r1Stop => 3
  | .r1EndHold => 2
  | .match2 => if s.dflag then 1 else 4
  | .r2Stop => 3
  | .r2Hold => 2
  | .r2Fwd => 1
  | .turn => 2
  | .fwdTail => 1

theorem stepsToStart_eq_zero_iff : stepsToStart s = 0 ↔ s.phase = .start := by
  cases hp : s.phase with
  | match2 => cases hd : s.dflag <;> simp [stepsToStart, hp, hd]
  | _ => simp [stepsToStart, hp]

/-- Every enabled row but P_START's comes nearer to P_START. -/
theorem RowStep.stepsToStart_lt (h : RowStep s u) (he : enabled s = true) (hp : s.phase ≠ .start) :
    stepsToStart u < stepsToStart s := by
  cases h with
  | start h => exact absurd h hp
  | waitSample h hv => simp [enabled_eq_false_iff.mpr (.inl ⟨smpReq_eq_true_iff.mpr h, hv⟩)] at he
  | waitHold h hv => simp [enabled_eq_false_iff.mpr (.inr ⟨holdReq_eq_true_iff.mpr h, hv⟩)] at he
  | match1Passed h hd => simp [stepsToStart, h, hd]
  | match1 h hd p | check h p => by_cases h7 : p = 0b111#3 <;> cases hd : s.dflag <;> simp [stepsToStart, h, h7, hd]
  | match2Passed h hd | noMatch h hd | match2Reacquire h hd | match2Turn h hd => simp [stepsToStart, h, hd]
  | sampled h | back h | hold h | resampled h | stop h | endHold h | reacqStop h | reacqHold h | reacqForward h
  | straight h | turn h | tail h => simp [stepsToStart, h]

theorem prompt_iff {p : Pins} : p.prompt = true ↔ p.rst = false ∧ p.smpValid = true ∧ p.holdDone = true := by
  simp [Pins.prompt, and_assoc]

theorem enabled_of_prompt (h : s.pins.prompt = true) : enabled s = true := by
  obtain ⟨-, hv, hd⟩ := prompt_iff.mp h
  simp [enabled, hv, hd]

theorem runFor_inputs {n : Nat} (h : runFor n s = .next t) : t.inputs = s.inputs.drop n := by
  induction n generalizing s with
  | zero => cases h; rfl
  | succ n ih =>
    obtain ⟨u, hu, ht⟩ := runFor_succ_eq_next.mp h
    rw [ih ht, step_inputs hu, List.drop_tail]

/-- The pins after `m` steps are entry number `m` of the environment. -/
theorem pins_mem_take_of_runFor {m n : Nat} (hm : m < n) (hlen : n ≤ s.inputs.length)
    (run : runFor m s = .next t) : t.pins ∈ s.inputs.take n := by
  have hm' : m < s.inputs.length := hm.trans_le hlen
  rw [State.pins, runFor_inputs run, List.drop_eq_getElem_cons hm']
  exact List.mem_take_iff_getElem.mpr ⟨m, lt_min hm hm', rfl⟩

/-- While the environment answers at once a pass ends within the steps it can still take. -/
theorem InPass.exists_end_of_prompt {m b n : Nat} (h : InPass s m t) (hb : stepsToStart t ≤ b) (hn : m + b ≤ n)
    (hlen : n ≤ s.inputs.length) (hprompt : ∀ p ∈ s.inputs.take n, p.prompt = true) :
    ∃ j u, j ≤ m + b ∧ InPass s j u ∧ u.phase = .start := by
  induction b generalizing m t with
  | zero => exact ⟨m, t, le_rfl, h, stepsToStart_eq_zero_iff.mp (Nat.le_zero.mp hb)⟩
  | succ b ih =>
    by_cases hp : t.phase = .start
    · exact ⟨m, t, by omega, h, hp⟩
    · have hpins := hprompt _ (pins_mem_take_of_runFor (by omega) hlen h.runFor_eq)
      obtain ⟨hr, -⟩ := prompt_iff.mp hpins
      obtain ⟨w, hw⟩ := exists_step_of_phaseInv (phaseInv_of_inPass h)
      obtain ⟨u, hu, rfl⟩ := row_of_step hr hw
      have hlt : stepsToStart u.tick < stepsToStart t := hu.stepsToStart_lt (enabled_of_prompt hpins) hp
      obtain ⟨j, v, hj, hv⟩ := ih (h.later hp hr hw) (by omega) (by omega)
      exact ⟨j, v, by omega, hv⟩

end Machine

/-- Settles O60: after P_START ten steps are left at most, and each step that is enabled uses one up. -/
theorem promptPassEndsWithinElevenSteps : Obligations.PromptPassEndsWithinElevenSteps := by
  intro s hp hlen hprompt
  have hpins := hprompt _ (pins_mem_take_of_runFor (by decide) hlen (runFor_zero s))
  obtain ⟨hr, -⟩ := prompt_iff.mp hpins
  obtain ⟨n, t, hn, hin, ht⟩ :=
    (InPass.first hp hr (step_start hr hp)).exists_end_of_prompt (b := 10) le_rfl le_rfl hlen hprompt
  exact ⟨n, t, hn, hin.completePass ht⟩

namespace Machine

variable {s t u v : State}

/-! ## A pass for every event sequence (rule R101) -/

/-- An environment entry that answers at once, with the readings `x`. -/
def Pins.deliver (x : Readings) : Pins := ⟨false, true, x.r, x.c, x.l, true, none⟩

/-- A delivered triple is latched by P_SAMPLE. -/
theorem RowStep.sampled_of_deliver {x : Readings} (hp : s.phase = .sample) (hpins : s.pins = .deliver x) :
    RowStep s (((s.quiet.latch x).emit (sampleEvent x)).goto .match1) := by
  have row := RowStep.sampled hp (by rw [hpins]; rfl)
  rwa [hpins] at row

/-- A delivered triple is latched by P_R1_RESAMPLE. -/
theorem RowStep.resampled_of_deliver {x : Readings} (hp : s.phase = .r1Resample) (hpins : s.pins = .deliver x) :
    RowStep s (((s.quiet.latch x).emit (sampleEvent x)).goto .r1Check) := by
  have row := RowStep.resampled hp (by rw [hpins]; rfl)
  rwa [hpins] at row

/-- `t` is in a pass from `s`, and the environment will deliver the readings `y` in each of the next `r` steps. -/
def PromptPass (s : State) (y : Readings) (r : Nat) (t : State) : Prop :=
  (∃ n, InPass s n t) ∧ t.inputs = List.replicate r (.deliver y)

/-- The block stands at phase `p` of a pass from `s` with DFLAG = 0 and the readings `x`, and the pass has emitted
`es`. -/
structure StandsAt (s : State) (p : Phase) (x : Readings) (es : List Event) (t : State) : Prop where
  phase : t.phase = p
  dflag : t.dflag = false
  pat : t.pat = some (classify s.cfg x)
  cfg : t.cfg = s.cfg
  trace : t.trace = s.trace ++ es

/-- Some complete pass from `s` emits `e`. -/
def PassEmits (s : State) (e : List Event) : Prop := ∃ n t, CompletePass n s t ∧ t.trace = s.trace ++ e

theorem PromptPass.row {y : Readings} {r : Nat} (h : PromptPass s y (r + 1) t) (hp : t.phase ≠ .start)
    (hu : t.pins = .deliver y → RowStep t u) : PromptPass s y r u.tick := by
  obtain ⟨⟨n, hin⟩, hinputs⟩ := h
  have hpins : t.pins = .deliver y := by rw [State.pins, hinputs]; rfl
  refine ⟨⟨_, hin.row hp (by rw [hpins]; rfl) (hu hpins)⟩, ?_⟩
  rw [State.tick_inputs, (hu hpins).inputs_eq, hinputs]; rfl

theorem PromptPass.passEmits {y : Readings} {r : Nat} {e : List Event} (h : PromptPass s y r t)
    (hp : t.phase = .start) (ht : t.trace = s.trace ++ e) : PassEmits s e := by
  obtain ⟨⟨n, hin⟩, -⟩ := h
  exact ⟨n, t, hin.completePass hp, ht⟩

/-- P_START and P_SAMPLE, with the readings `x` delivered. -/
theorem exists_promptPass_match1 {x y : Readings} {r : Nat} (hp : s.phase = .start)
    (hin : s.inputs = .deliver x :: .deliver x :: List.replicate r (.deliver y)) :
    ∃ t, PromptPass s y r t ∧ StandsAt s .match1 x [.pass, sampleEvent x] t := by
  have hr : s.pins.rst = false := by rw [State.pins, hin]; rfl
  have run1 := InPass.first hp hr (step_start hr hp)
  have hpins : (((s.quiet.setFlag false).emit .pass).goto .sample).tick.pins = .deliver x := by
    rw [State.pins, State.tick_inputs]; exact congrArg (fun l => l.tail.headD .idle) hin
  have run2 := run1.row nofun (by rw [hpins]; rfl) (.sampled_of_deliver rfl hpins)
  exact ⟨_, ⟨⟨_, run2⟩, congrArg (fun l => l.tail.tail) hin⟩, rfl, rfl, rfl, rfl, by simp⟩

/-- From P_MATCH1 with a sample that is all on line to the re-check, with the readings `y` delivered. -/
theorem PromptPass.exists_r1Check {x y : Readings} {r : Nat} (h : PromptPass s y (r + 4) t)
    (ht : StandsAt s .match1 x [.pass, sampleEvent x] t) (hx : classify s.cfg x = 0b111#3) :
    ∃ u, PromptPass s y r u ∧ StandsAt s .r1Check y (recoveryEvents s.cfg x y) u := by
  obtain ⟨hp, hd, hq, hc, htrace⟩ := ht
  have run1 := h.row (by simp [hp]) fun _ => .match1 hp hd _ hq
  rw [if_pos hx] at run1
  have run2 := run1.row nofun fun _ => .back rfl
  have run3 := run2.row nofun fun hpins => .hold rfl (by rw [hpins]; rfl)
  have run4 := run3.row nofun fun hpins => .resampled_of_deliver rfl hpins
  refine ⟨_, run4, rfl, hd, ?_, hc, ?_⟩
  · exact congrArg (fun c => some (classify c y)) hc
  · simp [htrace, hc, recoveryEvents]

/-- A match step that does not find all three on line goes on to P_MATCH2. -/
theorem PromptPass.exists_match2 {p : Phase} {x y : Readings} {es : List Event} {r : Nat}
    (h : PromptPass s y (r + 1) t) (ht : StandsAt s p x es t) (hp : p = .match1 ∨ p = .r1Check)
    (hx : classify s.cfg x ≠ 0b111#3) : ∃ u, PromptPass s y r u ∧ StandsAt s .match2 x es u := by
  obtain ⟨hphase, hd, hq, hc, htrace⟩ := ht
  have row : RowStep t (t.quiet.goto .match2) := by
    rcases hp with rfl | rfl
    · simpa [hx] using RowStep.match1 hphase hd _ hq
    · simpa [hx] using RowStep.check hphase _ hq
  have hne : t.phase ≠ .start := by rcases hp with rfl | rfl <;> simp [hphase]
  exact ⟨_, h.row hne fun _ => row, rfl, hd, hq, hc, htrace⟩

/-- From P_MATCH2 a rule 2 to 7 emits its action list and the pass ends. -/
theorem PromptPass.passEmits_rule {x y : Readings} {es : List Event} (h : PromptPass s y 4 t)
    (ht : StandsAt s .match2 x es t) (hx : plainPat (classify s.cfg x) = true) :
    PassEmits s (es ++ ruleEvents s.cfg (matchRule (classify s.cfg x) false)) := by
  obtain ⟨hp, hd, hq, hc, htrace⟩ := ht
  obtain ⟨h7, h5⟩ := plainPat_iff.mp hx
  have hne : t.phase ≠ .start := by simp [hp]
  by_cases h0 : classify s.cfg x = 0b000#3
  · rw [h0] at hq ⊢
    have run1 := h.row hne fun _ => .match2Reacquire hp hd hq
    have run2 := run1.row nofun fun _ => .reacqStop rfl
    have run3 := run2.row nofun fun hpins => .reacqHold rfl (by rw [hpins]; rfl)
    have run4 := run3.row nofun fun _ => .reacqForward rfl
    exact run4.passEmits rfl (by simp [htrace, hc, ruleEvents, matchRule_eq_two_iff.mpr rfl])
  · have run1 := h.row hne fun _ => .match2Turn hp hd _ hq h0 h5 h7
    have h3 := three_le_matchRule h0 h5 h7
    generalize matchRule (classify s.cfg x) false = k at run1 h3 ⊢
    by_cases hk : k = 3#3
    · subst hk
      have run2 := run1.row nofun fun _ => .straight rfl rfl
      exact run2.passEmits rfl (by simp [htrace, hc, ruleEvents])
    · have h34 : ∀ j : RuleNo, 3#3 ≤ j → j ≠ 3#3 → 4#3 ≤ j := by decide
      obtain ⟨tag, d, hcmd⟩ := cmdOf_of_three_le s.cfg h3
      have run2 := run1.row nofun fun _ => .turn rfl k _ rfl hk (hc ▸ hcmd)
      have run3 := run2.row nofun fun _ => .tail rfl
      exact run3.passEmits rfl (by simp [htrace, (ruleEvents_of_four_le (h34 k h3 hk) hcmd).1])

/-- From P_MATCH2 the uncovered pattern emits NOMATCH and the pass ends. -/
theorem PromptPass.passEmits_noMatch {x y : Readings} {es : List Event} {r : Nat} (h : PromptPass s y (r + 1) t)
    (ht : StandsAt s .match2 x es t) (hx : classify s.cfg x = 0b101#3) : PassEmits s (es ++ [.noMatch]) := by
  obtain ⟨hp, hd, hq, hc, htrace⟩ := ht
  have run := h.row (by simp [hp]) fun _ => .noMatch hp hd (hx ▸ hq)
  exact run.passEmits rfl (by simp [htrace])

/-- From the re-check with a re-sample that is all on line rule 1 stops, holds and ends the pass. -/
theorem PromptPass.passEmits_terminal {x y : Readings} {es : List Event} (h : PromptPass s y 4 t)
    (ht : StandsAt s .r1Check x es t) (hx : classify s.cfg x = 0b111#3) :
    PassEmits s (es ++ [.issue .stop none, .hold s.cfg.tEnd]) := by
  obtain ⟨hp, hd, hq, hc, htrace⟩ := ht
  have run1 := h.row (by simp [hp]) fun _ => .check hp _ hq
  rw [if_pos hx] at run1
  have run2 := run1.row nofun fun _ => .stop rfl
  have run3 := run2.row nofun fun hpins => .endHold rfl (by rw [hpins]; rfl)
  have run4 := run3.row nofun fun _ => .match2Passed rfl rfl
  exact run4.passEmits rfl (by simp [htrace, hc])

/-- From P_START, with prompt answers, a pass gets to the match step of its own sample. -/
theorem exists_sampled (s : State) (hp : s.phase = .start) (x y : Readings) (r : Nat) :
    ∃ xs t, PromptPass { s with inputs := xs } y r t ∧
      StandsAt { s with inputs := xs } .match1 x [.pass, sampleEvent x] t :=
  ⟨.deliver x :: .deliver x :: List.replicate r (.deliver y), exists_promptPass_match1 hp rfl⟩

/-- From P_START, with prompt answers, a pass whose sample `x` is all on line gets to the re-check of any re-sample. -/
theorem exists_resampled (s : State) (hp : s.phase = .start) {x : Readings} (hx : classify s.cfg x = 0b111#3)
    (y : Readings) (r : Nat) :
    ∃ xs t, PromptPass { s with inputs := xs } y r t ∧
      StandsAt { s with inputs := xs } .r1Check y (recoveryEvents s.cfg x y) t := by
  obtain ⟨xs, t, h, ht⟩ := exists_sampled s hp x y (r + 4)
  exact ⟨xs, h.exists_r1Check ht hx⟩

/-- Every event sequence is emitted by a pass, with the environment that delivers its readings. -/
theorem PassShape.exists_passEmits {k : Nat} {e : List Event} (h : PassShape s.cfg k e) (hp : s.phase = .start) :
    ∃ xs, PassEmits { s with inputs := xs } e := by
  cases h with
  | rule x hx =>
    obtain ⟨xs, t, h, ht⟩ := exists_sampled s hp x x 5
    obtain ⟨u, hu, hut⟩ := h.exists_match2 ht (.inl rfl) (plainPat_iff.mp hx).1
    exact ⟨xs, hu.passEmits_rule hut hx⟩
  | uncovered x hx =>
    obtain ⟨xs, t, h, ht⟩ := exists_sampled s hp x x 2
    obtain ⟨u, hu, hut⟩ := h.exists_match2 ht (.inl rfl) (by rw [hx]; decide)
    exact ⟨xs, hu.passEmits_noMatch hut hx⟩
  | terminal x y hx hy =>
    obtain ⟨xs, t, h, ht⟩ := exists_resampled s hp hx y 4
    exact ⟨xs, h.passEmits_terminal ht hy⟩
  | recovered x y hx hy =>
    obtain ⟨xs, t, h, ht⟩ := exists_resampled s hp hx y 5
    obtain ⟨u, hu, hut⟩ := h.exists_match2 ht (.inr rfl) (plainPat_iff.mp hy).1
    exact ⟨xs, hu.passEmits_rule hut hy⟩
  | recoveredUncovered x y hx hy =>
    obtain ⟨xs, t, h, ht⟩ := exists_resampled s hp hx y 2
    obtain ⟨u, hu, hut⟩ := h.exists_match2 ht (.inr rfl) (by rw [hy]; decide)
    exact ⟨xs, hu.passEmits_noMatch hut hy⟩

end Machine

/-- Settles O56: the environment that answers at once with the readings of the sequence. -/
theorem everyPassShapeOccurs : Obligations.EveryPassShapeOccurs :=
  fun _ _ _ hshape hp => hshape.exists_passEmits hp

end Sys2Proof
end

section
/-! PROOF. The handshakes (rules R106, R118): an update of the block does not look at what the environment presents, so
the step looks at the sample and the delay service only in the phases that ask for them. -/

namespace Sys2Proof

open Sys2Proof.Machine

namespace Machine

variable {s : State} {p q : Pins} {rest : List Pins}

/-! ## What the environment presents, apart from the block -/

/-- The block of `s` with `p` presented at the ports in the coming step, and `rest` in the steps after it. -/
def State.presented (s : State) (p : Pins) (rest : List Pins) : State := { s with inputs := p :: rest }

@[simp] theorem State.presented_dflag : (s.presented p rest).dflag = s.dflag := rfl
@[simp] theorem State.presented_rule : (s.presented p rest).rule = s.rule := rfl
@[simp] theorem State.presented_cfg : (s.presented p rest).cfg = s.cfg := rfl
@[simp] theorem State.presented_pat : (s.presented p rest).pat = s.pat := rfl
@[simp] theorem State.presented_pins : (s.presented p rest).pins = p := rfl

/-! An update of the block commutes with what the environment presents. -/

@[simp] theorem State.presented_goto (x : Phase) :
    (s.presented p rest).goto x = (s.goto x).presented p rest := rfl
@[simp] theorem State.presented_quiet : (s.presented p rest).quiet = s.quiet.presented p rest := rfl
@[simp] theorem State.presented_emit (ev : Event) :
    (s.presented p rest).emit ev = (s.emit ev).presented p rest := rfl
@[simp] theorem State.presented_setFlag (b : Bool) :
    (s.presented p rest).setFlag b = (s.setFlag b).presented p rest := rfl
@[simp] theorem State.presented_latch (x : Readings) :
    (s.presented p rest).latch x = (s.latch x).presented p rest := rfl
@[simp] theorem State.presented_setRule (k : RuleNo) :
    (s.presented p rest).setRule k = (s.setRule k).presented p rest := rfl
@[simp] theorem State.presented_strobe (a b c : Bool) :
    (s.presented p rest).strobe a b c = (s.strobe a b c).presented p rest := rfl
@[simp] theorem State.presented_finish : (s.presented p rest).finish = s.finish.presented p rest := rfl
@[simp] theorem State.presented_resetBlock :
    (s.presented p rest).resetBlock = s.resetBlock.presented p rest := rfl
@[simp] theorem State.presented_issue (tag : Tag) (duty : Option DutyPair) :
    (s.presented p rest).issue tag duty = (s.issue tag duty).presented p rest := by cases duty <;> rfl

/-- The environment's move looks at the upper nibble only (rules R90, R120). -/
theorem State.presented_tick_congr (s : State) (rest : List Pins) (h : p.portHi = q.portHi) :
    (s.presented p rest).tick = (s.presented q rest).tick := by
  simp only [State.tick, State.presented_pins, h]; rfl

/-! ## The shared rows (rules R54, R95, R97) -/

/-- A sample row looks at the handshake and the triple (rule R54). -/
theorem sampleRow_tick_congr (x : Phase) (hhi : p.portHi = q.portHi)
    (h : p.smpValid = q.smpValid ∧ p.smpL = q.smpL ∧ p.smpC = q.smpC ∧ p.smpR = q.smpR) :
    onNext State.tick (sampleRow x (s.presented p rest)) = onNext State.tick (sampleRow x (s.presented q rest)) := by
  obtain ⟨hv, hl, hc, hr⟩ := h
  cases hq : q.smpValid with
  | true => simp [sampleRow, hv, hq, hl, hc, hr, State.presented_tick_congr _ rest hhi]
  | false => simp [sampleRow, wait, hv, hq, State.presented_tick_congr _ rest hhi]

/-- A hold row looks at the end of the delay (rule R97). -/
theorem holdRow_tick_congr (n : Count) {after : State → State}
    (hafter : ∀ (u : State) (x : Pins), after (u.presented x rest) = (after u).presented x rest)
    (hhi : p.portHi = q.portHi) (h : p.holdDone = q.holdDone) :
    onNext State.tick (holdRow n after (s.presented p rest)) =
      onNext State.tick (holdRow n after (s.presented q rest)) := by
  cases hq : q.holdDone with
  | true => simp [holdRow, h, hq, hafter, State.presented_tick_congr _ rest hhi]
  | false => simp [holdRow, wait, h, hq, State.presented_tick_congr _ rest hhi]

/-- P_MATCH2 looks at nothing that the environment presents (rule R95). -/
theorem match2Row_tick_congr (k : RuleNo) (hhi : p.portHi = q.portHi) :
    onNext State.tick (match2Row k (s.presented p rest)) = onNext State.tick (match2Row k (s.presented q rest)) := by
  have htick := fun u : State => u.presented_tick_congr rest hhi
  rw [match2Row_eq, match2Row_eq, State.presented_dflag, State.presented_dflag]
  split_ifs <;> simp [htick]

/-! ## The step -/

/-- A step that is no reset looks at the sample in a sample phase only and at the delay service in a hold phase
only. -/
theorem step_presented_congr (hp : (s.presented p rest).pins.rst = false)
    (hq : (s.presented q rest).pins.rst = false) (hhi : p.portHi = q.portHi)
    (hsmp : smpReq s.phase = true →
      p.smpValid = q.smpValid ∧ p.smpL = q.smpL ∧ p.smpC = q.smpC ∧ p.smpR = q.smpR)
    (hhold : holdReq s.phase = true → p.holdDone = q.holdDone) :
    step (s.presented p rest) = step (s.presented q rest) := by
  have htick := fun u : State => u.presented_tick_congr rest hhi
  cases hph : s.phase with
  | start => rw [step_start hp hph, step_start hq hph]; simp [htick]
  | sample => rw [step_sample hp hph, step_sample hq hph, sampleRow_tick_congr _ hhi (hsmp (by rw [hph]; rfl))]
  | match1 =>
    rw [step_match1 hp hph, step_match1 hq hph]
    cases hd : s.dflag <;> simp [hd, htick]
  | r1Back => rw [step_r1Back hp hph, step_r1Back hq hph]; simp [htick]
  | r1Hold =>
    rw [step_r1Hold hp hph, step_r1Hold hq hph]
    exact holdRow_tick_congr _ (fun _ _ => rfl) hhi (hhold (by rw [hph]; rfl))
  | r1Resample =>
    rw [step_r1Resample hp hph, step_r1Resample hq hph, sampleRow_tick_congr _ hhi (hsmp (by rw [hph]; rfl))]
  | r1Check => rw [step_r1Check hp hph, step_r1Check hq hph]; simp [htick]
  | r1Stop => rw [step_r1Stop hp hph, step_r1Stop hq hph]; simp [htick]
  | r1EndHold =>
    rw [step_r1EndHold hp hph, step_r1EndHold hq hph]
    exact holdRow_tick_congr _ (fun _ _ => rfl) hhi (hhold (by rw [hph]; rfl))
  | match2 =>
    rw [step_match2 hp hph, step_match2 hq hph]
    cases hd : s.dflag with
    | true => simp [hd, htick]
    | false => simp [hd, match2Row_tick_congr _ hhi]
  | r2Stop => rw [step_r2Stop hp hph, step_r2Stop hq hph]; simp [htick]
  | r2Hold =>
    rw [step_r2Hold hp hph, step_r2Hold hq hph]
    exact holdRow_tick_congr _ (fun _ _ => rfl) hhi (hhold (by rw [hph]; rfl))
  | r2Fwd => rw [step_r2Fwd hp hph, step_r2Fwd hq hph]; simp [htick]
  | turn => rw [step_turn hp hph, step_turn hq hph]; simp [htick, apply_ite State.tick]
  | fwdTail => rw [step_fwdTail hp hph, step_fwdTail hq hph]; simp [htick]

end Machine

/-- Settles O48: a reset step looks at no handshake, and any other step at those that its phase asks for. -/
theorem handshakesElsewhereAreIgnored : Obligations.HandshakesElsewhereAreIgnored := by
  intro s p q rest hrst hhi hsmp hhold
  show step (s.presented p rest) = step (s.presented q rest)
  cases hq : q.rst with
  | true =>
    rw [step_of_rst (s := s.presented p rest) (hrst.trans hq), step_of_rst (s := s.presented q rest) hq, State.presented_resetBlock, State.presented_resetBlock,
      State.presented_tick_congr _ rest hhi]
  | false => exact step_presented_congr (hrst.trans hq) hq hhi hsmp hhold

end Sys2Proof
end

section
/-! PROOF. Reset and the host port (rules R114, R120): an instruction changes the state by the block's own updates only,
none of which writes the environment's nibble, and the environment's write is the one that lands in every step. -/

namespace Sys2Proof

open Sys2Proof.Machine

namespace Machine

variable {s t u : State}

/-! ## What an instruction can change -/

/-- `t` comes from `s` by the block's own updates of its registers, its trace and its strobes, with no move of the
environment (`State.tick`). -/
inductive BlockUpdates (s : State) : State → Prop
  | refl : BlockUpdates s s
  | goto (p : Phase) {v} (h : BlockUpdates s v) : BlockUpdates s (v.goto p)
  | quiet {v} (h : BlockUpdates s v) : BlockUpdates s v.quiet
  | emit (ev : Event) {v} (h : BlockUpdates s v) : BlockUpdates s (v.emit ev)
  | setFlag (b : Bool) {v} (h : BlockUpdates s v) : BlockUpdates s (v.setFlag b)
  | latch (x : Readings) {v} (h : BlockUpdates s v) : BlockUpdates s (v.latch x)
  | setRule (k : RuleNo) {v} (h : BlockUpdates s v) : BlockUpdates s (v.setRule k)
  | strobe (a b c : Bool) {v} (h : BlockUpdates s v) : BlockUpdates s (v.strobe a b c)
  | issue (tag : Tag) (duty : Option DutyPair) {v} (h : BlockUpdates s v) : BlockUpdates s (v.issue tag duty)

theorem BlockUpdates.finish (h : BlockUpdates s t) : BlockUpdates s t.finish := .goto _ (.setFlag _ h)

/-- No update of the block writes the host port's upper nibble (rules R32, R120). -/
theorem BlockUpdates.portHi_eq (h : BlockUpdates s t) : t.portHi = s.portHi := by
  induction h with
  | refl => rfl
  | goto | quiet | emit | setFlag | latch | setRule | strobe | issue => simp [*]

theorem sampleRow_blockUpdates {p : Phase} (h : sampleRow p s = .next t) : BlockUpdates s t := by
  rcases sampleRow_cases h with ⟨-, rfl⟩ | ⟨-, rfl⟩
  · exact .goto _ (.emit _ (.latch _ (.quiet .refl)))
  · exact .quiet .refl

theorem holdRow_blockUpdates {n : Count} {after : State → State} (h : holdRow n after s = .next t)
    (hafter : ∀ {v}, BlockUpdates s v → BlockUpdates s (after v)) : BlockUpdates s t := by
  rcases holdRow_cases h with ⟨-, rfl⟩ | ⟨-, rfl⟩
  · exact hafter (.emit _ (.quiet .refl))
  · exact .quiet .refl

theorem issueRow_blockUpdates {tag : Tag} {after : State → State} (h : issueRow tag after s = .next t)
    (hafter : ∀ {v}, BlockUpdates s v → BlockUpdates s (after v)) : BlockUpdates s t := by
  rw [issueRow_eq] at h
  cases h
  exact hafter (.issue _ _ .refl)

theorem match2Row_blockUpdates {k : RuleNo} (h : match2Row k s = .next t) : BlockUpdates s t := by
  rcases match2Row_cases h with ⟨-, rfl⟩ | ⟨-, -, rfl⟩ | ⟨-, -, rfl⟩ | ⟨-, -, rfl⟩
  · exact .goto _ (.quiet .refl)
  · exact .goto _ (.strobe _ _ _ (.emit _ (.setRule _ .refl)))
  · exact .goto _ (.setRule _ (.quiet .refl))
  · exact .goto _ (.setRule _ (.quiet .refl))

theorem turnRow_blockUpdates {k : RuleNo} (h : turnRow k s = .next t) : BlockUpdates s t := by
  obtain ⟨c, -, rfl⟩ := turnRow_cases h
  split
  · exact .finish (.issue _ _ .refl)
  · exact .goto _ (.issue _ _ .refl)

theorem entryStep_blockUpdates {k : RuleNo} (h : entryStep k s = .next t) : BlockUpdates s t := by
  unfold entryStep at h
  split at h
  · cases h; exact .goto _ (.quiet .refl)
  · cases h; exact .goto _ (.quiet .refl)
  · exact match2Row_blockUpdates h
  · exact turnRow_blockUpdates h
  · exact issueRow_blockUpdates h .finish
  · cases h

theorem execRule1Recover_blockUpdates (h : execRule1Recover s = .next t) : BlockUpdates s t := by
  unfold execRule1Recover at h
  split at h
  · exact issueRow_blockUpdates h (.goto _)
  · exact holdRow_blockUpdates h (.goto _)
  · exact sampleRow_blockUpdates h
  · exact issueRow_blockUpdates h (.goto _)
  · exact holdRow_blockUpdates h fun hv => .goto _ (.setFlag _ hv)
  · exact entryStep_blockUpdates h

theorem execRule2Reacquire_blockUpdates (h : execRule2Reacquire s = .next t) : BlockUpdates s t := by
  unfold execRule2Reacquire at h
  split at h
  · exact issueRow_blockUpdates h (.goto _)
  · exact holdRow_blockUpdates h (.goto _)
  · exact issueRow_blockUpdates h .finish
  · exact entryStep_blockUpdates h

/-- An instruction changes the state by updates of the block only, in whatever phase it runs. -/
theorem exec_blockUpdates {i : Instr} (h : exec i s = .next t) : BlockUpdates s t := by
  cases i with
  | rule1Recover => exact execRule1Recover_blockUpdates h
  | rule2Reacquire => exact execRule2Reacquire_blockUpdates h
  | rule3Forward | rule4SoftLeft | rule5SoftRight | rule6Right | rule7Left | noMatch =>
    exact entryStep_blockUpdates h
  | stop | softRight | softLeft | left | forward | back | right => cases h; exact .issue _ _ .refl

/-! ## The host port (rules R32, R120) -/

theorem RowStep.portHi_eq (h : RowStep s u) : u.portHi = s.portHi := by
  cases h <;> simp

/-- After every step the upper nibble is what the environment wrote in it, or else left there. -/
theorem step_portHi (h : step s = .next t) : t.portHi = s.pins.portHi.getD s.portHi := by
  cases hr : s.pins.rst with
  | true => rw [step_of_rst hr] at h; cases h; simp
  | false =>
    obtain ⟨u, hu, rfl⟩ := row_of_step hr h
    have hpins : u.pins = s.pins := State.pins_eq_of_inputs hu.inputs_eq
    rw [State.tick_portHi, hpins, hu.portHi_eq]

theorem hostPort_upper (s : State) : s.hostPort.extractLsb' 4 4 = s.portHi :=
  BitVec.extractLsb'_append_eq_left

theorem hostPort_lower (s : State) : s.hostPort.extractLsb' 0 4 = s.dir :=
  BitVec.extractLsb'_append_eq_right

end Machine

/-- Settles O47: an instruction makes updates of the block only, and the environment's write lands in every step. -/
theorem upperNibbleIsTheEnvironments : Obligations.UpperNibbleIsTheEnvironments :=
  ⟨fun _ _ _ h => (exec_blockUpdates h).portHi_eq,
    fun _ t h => ⟨step_portHi h, hostPort_upper t, hostPort_lower t⟩⟩

/-- Settles O1: a reset step is the reset state with the environment's move, and it stands at P_START. -/
theorem resetOverridesEveryStep : Obligations.ResetOverridesEveryStep := fun _ hr =>
  ⟨_, step_of_rst hr, rfl, rfl, rfl, rfl, rfl, rfl, rfl, rfl, rfl, rfl,
    fun hr' => ⟨_, step_start hr' rfl, rfl, rfl⟩⟩

end Sys2Proof
end
